-- ==== Sys2Proof/Word.lean ====
section
/-! DEFINITION. The widths of the LFOADSR core (00_scope.md R8): plain names for the bit vectors the
spec treats as words. Every rounding or wrapping operation stands in Machine/Ops.lean. -/

namespace Sys2Proof

/-- One byte of the receive stream (20_memory.md R42). -/
abbrev Byte := BitVec 8

/-- The one operand of every command, U16 (30_encoding.md R62). -/
abbrev Value := BitVec 16

/-- A timestamp in microseconds, `TSW` = 32 bits, wrapping (00_scope.md R7, 60_exceptions.md R223). -/
abbrev Timestamp := BitVec 32

/-- A sample or level, U12, 0..4095 (00_scope.md R7 `DAC_MAX`). -/
abbrev Level := BitVec 12

/-- A phase-offset numerator in 360ths of a cycle, S17, read with `BitVec.toInt` (10_state.md R15). -/
abbrev PhaseNum := BitVec 17

end Sys2Proof
end

