-- ==== Sys2Proof/Syntax.lean ====
section
/-! DEFINITION. The commands of the core, one constructor per row of spec/opcode_table.json
(30_encoding.md R65). The one operand of every command is the 16-bit `value` (R62). -/

namespace Sys2Proof

/-- The 27 commands of 30_encoding.md R65. -/
inductive Instr where
  | envAttack (value : Value)
  | envDecay (value : Value)
  | envSustain (value : Value)
  | envRelease (value : Value)
  | envTrigger (value : Value)
  | syncMode (value : Value)
  | syncFreq (value : Value)
  | syncRate (value : Value)
  | syncPhase (value : Value)
  | osc0Mode (value : Value)
  | osc0Freq (value : Value)
  | osc0Rate (value : Value)
  | osc0Wave (value : Value)
  | osc0Amp (value : Value)
  | osc0Offset (value : Value)
  | osc0Phase (value : Value)
  | osc0Env (value : Value)
  | osc1Mode (value : Value)
  | osc1Freq (value : Value)
  | osc1Rate (value : Value)
  | osc1Wave (value : Value)
  | osc1Amp (value : Value)
  | osc1Offset (value : Value)
  | osc1Phase (value : Value)
  | osc1Env (value : Value)
  | songBpm (value : Value)
  | songMeasure (value : Value)
deriving DecidableEq, Repr

end Sys2Proof
end

