-- ==== Sys2Proof/WellFormed.lean ====
section
/-! DEFINITION. Which commands and which frames are well formed. The operand of a command is typed as the
16 bits the frame carries, and no value is illegal (30_encoding.md R67, R68), so `Instr.wellFormed` refuses
nothing; what can be ill formed is a frame of bytes: its length, its sync byte, its control id
(R60, R64, R65, R66). `Instr.nominal` is the range the spec NAMES and the hardware does not enforce. -/

namespace Sys2Proof

/-- Every command with every value is well formed: there is no illegal encoding, "the value is stored as it is"
(30_encoding.md R68). -/
def Instr.wellFormed (i : Instr) : Bool :=
  match i with
  | .envAttack _ | .envDecay _ | .envSustain _ | .envRelease _ | .envTrigger _ => true
  | .syncMode _ | .syncFreq _ | .syncRate _ | .syncPhase _ => true
  | .osc0Mode _ | .osc0Freq _ | .osc0Rate _ | .osc0Wave _ => true
  | .osc0Amp _ | .osc0Offset _ | .osc0Phase _ | .osc0Env _ => true
  | .osc1Mode _ | .osc1Freq _ | .osc1Rate _ | .osc1Wave _ => true
  | .osc1Amp _ | .osc1Offset _ | .osc1Phase _ | .osc1Env _ => true
  | .songBpm _ | .songMeasure _ => true

/-- The assigned control ids (30_encoding.md R65; 20_memory.md R51): 210 to 214, 220 to 222, 226, 230 to 237,
240 to 247, 250 and 251. -/
def assignedId (id : Byte) : Bool :=
  (210 ≤ id.toNat && id.toNat ≤ 214) || (220 ≤ id.toNat && id.toNat ≤ 222) || id.toNat == 226 ||
  (230 ≤ id.toNat && id.toNat ≤ 237) || (240 ≤ id.toNat && id.toNat ≤ 247) ||
  id.toNat == 250 || id.toNat == 251

/-- A well-formed frame of a command: four bytes, the first 255, the second an assigned control id
(30_encoding.md R60, R65). -/
def frameWellFormed (bytes : List Byte) : Bool :=
  match bytes with
  | [b0, b1, _, _] => b0 == 255#8 && assignedId b1
  | _ => false

/-- The nominal ranges the source names for the values and does not enforce (00_scope.md glossary;
10_state.md R15; 30_encoding.md R65): rate indices 0..23, amplitudes and offsets 0..4095, angles 0..360, the
sustain attenuation 0..7000, trigger, mode and enable 0 or 1. -/
def Instr.nominal (i : Instr) : Bool :=
  match i with
  | .envSustain v => v.toNat ≤ 7000
  | .envTrigger v | .syncMode v | .osc0Mode v | .osc1Mode v | .osc0Env v | .osc1Env v => v.toNat ≤ 1
  | .syncRate v | .osc0Rate v | .osc1Rate v => v.toNat ≤ 23
  | .osc0Amp v | .osc1Amp v | .osc0Offset v | .osc1Offset v => v.toNat ≤ 4095
  | .syncPhase v | .osc0Phase v | .osc1Phase v => v.toNat ≤ 360
  | .envAttack _ | .envDecay _ | .envRelease _ => true
  | .syncFreq _ | .osc0Freq _ | .osc1Freq _ => true
  | .osc0Wave _ | .osc1Wave _ => true
  | .songBpm _ | .songMeasure _ => true

end Sys2Proof
end

