-- ==== Sys2Proof/Decode.lean ====
section
/-! DEFINITION. From bytes to commands and back (30_encoding.md R60 to R66, 40_protocol_decoder.md R84, R86).
Decoding is total: what is no command is rejected by name. A rejected control id is no fault of the machine:
its frame is carried out as nothing (R66; Machine/Iteration.lean). -/

namespace Sys2Proof

/-- Why bytes are no command. `tooShort`: fewer than the four bytes of a frame (R60). `noSync`: the first byte
is not 255, so no frame starts here (R64). `unassigned`: a frame whose control id names no command (R66). -/
inductive DecodeReject where
  | tooShort
  | noSync (b : Byte)
  | unassigned (id : Byte)
deriving DecidableEq, Repr

/-- The sync byte, 255 (00_scope.md R7 `SYNC_BYTE`; 30_encoding.md R60). -/
def syncByte : Byte := 255#8

/-- The value of a frame from its high and low byte: `high*256 + low`, high byte first (30_encoding.md R62;
20_memory.md R46). -/
def frameValue (hi lo : Byte) : Value := hi ++ lo

/-- The lookup of a completed frame's control id (30_encoding.md R63, R65). -/
def lookup (id : Byte) (value : Value) : Except DecodeReject Instr :=
  match id.toNat with
  | 210 => .ok (.envAttack value)
  | 211 => .ok (.envDecay value)
  | 212 => .ok (.envSustain value)
  | 213 => .ok (.envRelease value)
  | 214 => .ok (.envTrigger value)
  | 220 => .ok (.syncMode value)
  | 221 => .ok (.syncFreq value)
  | 222 => .ok (.syncRate value)
  | 226 => .ok (.syncPhase value)
  | 230 => .ok (.osc0Mode value)
  | 231 => .ok (.osc0Freq value)
  | 232 => .ok (.osc0Rate value)
  | 233 => .ok (.osc0Wave value)
  | 234 => .ok (.osc0Amp value)
  | 235 => .ok (.osc0Offset value)
  | 236 => .ok (.osc0Phase value)
  | 237 => .ok (.osc0Env value)
  | 240 => .ok (.osc1Mode value)
  | 241 => .ok (.osc1Freq value)
  | 242 => .ok (.osc1Rate value)
  | 243 => .ok (.osc1Wave value)
  | 244 => .ok (.osc1Amp value)
  | 245 => .ok (.osc1Offset value)
  | 246 => .ok (.osc1Phase value)
  | 247 => .ok (.osc1Env value)
  | 250 => .ok (.songBpm value)
  | 251 => .ok (.songMeasure value)
  | _ => .error (.unassigned id)

/-- Decode the frame at the head of a list of bytes, and the bytes after it (30_encoding.md R60, R64). -/
def decode (bytes : List Byte) : Except DecodeReject (Instr × List Byte) :=
  match bytes with
  | b0 :: b1 :: b2 :: b3 :: rest =>
    if b0 = syncByte then (lookup b1 (frameValue b2 b3)).map (fun i => (i, rest))
    else .error (.noSync b0)
  | _ => .error .tooShort

/-- The control id of a command (30_encoding.md R65). -/
def Instr.controlId (i : Instr) : Byte :=
  match i with
  | .envAttack _ => 210#8
  | .envDecay _ => 211#8
  | .envSustain _ => 212#8
  | .envRelease _ => 213#8
  | .envTrigger _ => 214#8
  | .syncMode _ => 220#8
  | .syncFreq _ => 221#8
  | .syncRate _ => 222#8
  | .syncPhase _ => 226#8
  | .osc0Mode _ => 230#8
  | .osc0Freq _ => 231#8
  | .osc0Rate _ => 232#8
  | .osc0Wave _ => 233#8
  | .osc0Amp _ => 234#8
  | .osc0Offset _ => 235#8
  | .osc0Phase _ => 236#8
  | .osc0Env _ => 237#8
  | .osc1Mode _ => 240#8
  | .osc1Freq _ => 241#8
  | .osc1Rate _ => 242#8
  | .osc1Wave _ => 243#8
  | .osc1Amp _ => 244#8
  | .osc1Offset _ => 245#8
  | .osc1Phase _ => 246#8
  | .osc1Env _ => 247#8
  | .songBpm _ => 250#8
  | .songMeasure _ => 251#8

/-- The operand of a command (30_encoding.md R62). -/
def Instr.value (i : Instr) : Value :=
  match i with
  | .envAttack v | .envDecay v | .envSustain v | .envRelease v | .envTrigger v => v
  | .syncMode v | .syncFreq v | .syncRate v | .syncPhase v => v
  | .osc0Mode v | .osc0Freq v | .osc0Rate v | .osc0Wave v => v
  | .osc0Amp v | .osc0Offset v | .osc0Phase v | .osc0Env v => v
  | .osc1Mode v | .osc1Freq v | .osc1Rate v | .osc1Wave v => v
  | .osc1Amp v | .osc1Offset v | .osc1Phase v | .osc1Env v => v
  | .songBpm v | .songMeasure v => v

/-- The frame of a command: "emit the four bytes `0xFF, controlId, value >> 8, value & 0xFF`"
(30_encoding.md R60, R70). -/
def encode (i : Instr) : List Byte :=
  [syncByte, i.controlId, i.value.extractLsb' 8 8, i.value.extractLsb' 0 8]

/-- The four bytes of a frame word `W = byte0 || byte1 || byte2 || byte3` (30_encoding.md R61), in sending
order. The low `nbits` bits of `w` are the word's, numbered as spec/opcode_table.json numbers them (bits 31:24
the sync byte); every higher bit is 0. -/
def wordBytes (nbits w : Nat) : List Byte :=
  let word : BitVec 32 := BitVec.ofNat 32 (w % 2 ^ nbits)
  [word.extractLsb' 24 8, word.extractLsb' 16 8, word.extractLsb' 8 8, word.extractLsb' 0 8]

/-- The command the decoder reads from a frame word of the table (30_encoding.md R61). -/
def decodeTableWord (nbits w : Nat) : Option Instr :=
  match decode (wordBytes nbits w) with
  | .ok (i, _) => some i
  | .error _ => none

end Sys2Proof
end

