-- ==== Sys2Proof/Config.lean ====
section
/-! DEFINITION. What the spec leaves to the implementation or to the environment. Every constant here is
opaque and has no body: nothing can be proved of its value, so a theorem about the model holds whatever it is.
The definitions that use these constants and give them the properties the spec asserts stand in
Machine/Operands.lean, Machine/Phase.lean and Machine/Envelope.lean. -/

namespace Sys2Proof

/-- What the environment does before and at one step (00_scope.md R5, R6; 49_watchdog_and_iteration.md R201).
`tick ts rx`: the host appends the bytes `rx` to the receive queue, then an iteration runs with the timestamp
`ts`. `rst rx`: the port `rst` is asserted; the bytes `rx` the host sends meanwhile are lost
(70_reset_and_hazards.md R240, R241). -/
inductive Input where
  | tick (ts : Timestamp) (rx : List Byte)
  | rst (rx : List Byte)
deriving DecidableEq, Repr, Inhabited

/-- The inputs after the listed ones have ended: FREE, the n-th is unknown (R201: "The sequence of timestamps
is an input of the model, not computed by it"). DESIGN CHOICE, log entry 1, safe. -/
opaque Config.environment : Nat → Input

/-- The oscillator's phase-to-sample function where property O1 does not settle it (45_lfo_phase.md R146;
93_implementation_defined.md U1, U3): FREE, with values in 0..4095 by its type (O3), a function of waveform,
effective amplitude, offset and phase alone (O2). Log entry 3, safe. -/
opaque Config.oscShape : Value → Value → Value → ℚ → Level

/-- The rate table at an index of 24 or more, less one (20_memory.md R44; U2): FREE. The rate itself is this
number plus one, an unknown positive integer. Log entry 5, safe. -/
opaque Config.rateOOR : Value → Nat

/-- An unknown monotone function from which the attack curve is made (46_adsr.md R157; U4): FREE.
Log entry 4, safe. -/
opaque Config.attackShape : ℚ →o ℚ

/-- As `Config.attackShape`, for the decay curve. -/
opaque Config.decayShape : ℚ →o ℚ

/-- As `Config.attackShape`, for the release curve. -/
opaque Config.releaseShape : ℚ →o ℚ

end Sys2Proof
end

