-- ==== Sys2Proof/Machine/State.lean ====
section
/-! DEFINITION. The state of the core: the 52 registers of 10_state.md R11, grouped as the source groups its
entities, the receive queue the core observes (R28, R29), and the inputs still to come (the model's own).
Registers that only ever hold named alternatives (`DEC_STATE`, `ENV_STATE`, the modes) are inductive types,
one-bit registers are `Bool` (log entry 8). -/

namespace Sys2Proof.Machine

/-- `DEC_STATE`, U2 (10_state.md R12): 0 = AwaitSync, 1 = AwaitControl, 2 = AwaitValueHigh,
3 = AwaitValueLow, the number of bytes of the current frame already stored. -/
inductive DecState where
  | awaitSync
  | awaitControl
  | awaitValueHigh
  | awaitValueLow
deriving DecidableEq, Repr

/-- A U1 mode register (10_state.md R15, R18): 0 = FreeFrequency, 1 = TempoRate (oscillator) or TempoLocked
(sync). -/
inductive Mode where
  | free
  | tempo
deriving DecidableEq, Repr

/-- `ENV_STATE`, U3 (10_state.md R23): 0 = Idle, 1 = Attack, 2 = Decay, 3 = Sustain, 4 = Release; 5..7 never
occur. -/
inductive EnvState where
  | idle
  | attack
  | decay
  | sustain
  | release
deriving DecidableEq, Repr

/-- A channel index `c` in 0, 1 (00_scope.md R2). -/
inductive Channel where
  | ch0
  | ch1
deriving DecidableEq, Repr

/-- The decoder state and the frame registers (10_state.md R12, R13). -/
structure DecRegs where
  /-- `DEC_STATE` -/
  state : DecState
  /-- `FR_SYNC` -/
  sync : Byte
  /-- `FR_CTRL` -/
  ctrl : Byte
  /-- `FR_VH` -/
  vh : Byte
  /-- `FR_VL` -/
  vl : Byte
deriving DecidableEq, Repr

/-- Transport (10_state.md R14) and the measure LED (R27). -/
structure TransportRegs where
  /-- `BPM10`, tempo in tenths of a beat per minute -/
  bpm10 : BitVec 16
  /-- `MEASURE` -/
  measure : BitVec 16
  /-- `LED_MEASURE` -/
  ledMeasure : Bool
deriving DecidableEq, Repr

/-- The 13 registers of one oscillator channel (10_state.md R15, R20, R21, R22, R27). -/
structure OscRegs where
  /-- `OSC[c].MODE` -/
  mode : Mode
  /-- `OSC[c].FREQ100`, hundredths of a hertz -/
  freq100 : BitVec 16
  /-- `OSC[c].RATE_IDX` -/
  rateIdx : BitVec 16
  /-- `OSC[c].WAVE`, 0 = constant/DC -/
  wave : BitVec 16
  /-- `OSC[c].AMP`, the configured amplitude -/
  amp : BitVec 16
  /-- `OSC[c].OFFSET` -/
  offset : BitVec 16
  /-- `OSC[c].PHASE_NUM`, signed, 360ths of a cycle -/
  phaseNum : PhaseNum
  /-- `OSC[c].ENV_EN` -/
  envEn : Bool
  /-- `OSC[c].ACC`, U27, units of 10^-8 cycle -/
  acc : BitVec 27
  /-- `OSC[c].TEPOCH` -/
  tEpoch : Timestamp
  /-- `OSC[c].AMP_EFF`, the amplitude the sample port uses -/
  ampEff : BitVec 16
  /-- `DAC[c]` -/
  dac : Level
  /-- `LED_OSC[c]` -/
  ledOsc : Bool
deriving DecidableEq, Repr

/-- The envelope's configuration and run-time registers (10_state.md R16, R17, R23). -/
structure EnvRegs where
  /-- `ENV_ATTACK_US` -/
  attackUs : BitVec 32
  /-- `ENV_DECAY_US` -/
  decayUs : BitVec 32
  /-- `ENV_RELEASE_US` -/
  releaseUs : BitVec 32
  /-- `ENV_SUSTAIN`, units of 1/16 -/
  sustain : BitVec 16
  /-- `ENV_STATE` -/
  state : EnvState
  /-- `ENV_T_STAGE` -/
  tStage : Timestamp
  /-- `ENV_L_STAGE` -/
  lStage : Level
  /-- `ENV_OUT` -/
  out : Level
deriving DecidableEq, Repr

/-- The sync generator's registers (10_state.md R18, R24, R27). -/
structure SyncRegs where
  /-- `SYNC_MODE` -/
  mode : Mode
  /-- `SYNC_FREQ100` -/
  freq100 : BitVec 16
  /-- `SYNC_RATE_IDX` -/
  rateIdx : BitVec 16
  /-- `SYNC_PHASE_NUM`, signed, 360ths of a cycle -/
  phaseNum : PhaseNum
  /-- `SYNC_EPOCH` -/
  epoch : Timestamp
  /-- `SYNC_OUT` -/
  out : Bool
  /-- `LED_SYNC` -/
  led : Bool
deriving DecidableEq, Repr

/-- The connection watchdog (10_state.md R25). -/
structure WdRegs where
  /-- `WD_LAST` -/
  last : Timestamp
  /-- `WD_CONN`, also the connection LED -/
  conn : Bool
deriving DecidableEq, Repr

/-- The machine: the 52 registers (10_state.md R11), the receive queue (R28), and the model's own inputs. -/
structure State where
  /-- decoder and frame -/
  dec : DecRegs
  /-- transport -/
  transport : TransportRegs
  /-- channel 0 -/
  osc0 : OscRegs
  /-- channel 1 -/
  osc1 : OscRegs
  /-- envelope -/
  env : EnvRegs
  /-- sync generator -/
  sync : SyncRegs
  /-- watchdog -/
  wd : WdRegs
  /-- `T_LAST` (10_state.md R26); inside an iteration, after sub-step 1, the iteration's own timestamp -/
  tLast : Timestamp
  /-- `RXQ`, the oldest byte first (10_state.md R28) -/
  rxq : List Byte
  /-- MODEL'S OWN: what the environment will do at the coming steps (log entry 1) -/
  inputs : List Input
  /-- MODEL'S OWN: how many free inputs have been drawn after `inputs` ended (log entry 1) -/
  inputCount : Nat
deriving DecidableEq, Repr

/-- A fault would be a step that stops the machine. There is none: "No operation is fatal; the loop never
terminates" (60_exceptions.md R215), so the type has no constructor and no step can fault. -/
inductive Fault where
deriving DecidableEq, Repr

/-- Why the MODEL declines to run an instruction. -/
inductive Refusal where
  /-- Raised by `exec` for an instruction that has no meaning yet (safe: nothing is claimed of it). No arm of
  `exec` raises it. -/
  | notModelled (mnemonic : String)
deriving DecidableEq, Repr

/-- A channel after reset: every register 0 (10_state.md section 7). -/
def OscRegs.reset : OscRegs :=
  { mode := .free, freq100 := 0, rateIdx := 0, wave := 0, amp := 0, offset := 0, phaseNum := 0,
    envEn := false, acc := 0, tEpoch := 0, ampEff := 0, dac := 0, ledOsc := false }

/-- The machine after reset: every register 0 except `BPM10` = 1200, and `RXQ` empty (10_state.md section 7;
70_reset_and_hazards.md R240, R241). The model's own `inputs` and `inputCount` start empty and 0
(DESIGN CHOICE, log entry 1). -/
def State.reset : State :=
  { dec := { state := .awaitSync, sync := 0, ctrl := 0, vh := 0, vl := 0 }
    transport := { bpm10 := 1200, measure := 0, ledMeasure := false }
    osc0 := OscRegs.reset
    osc1 := OscRegs.reset
    env := { attackUs := 0, decayUs := 0, releaseUs := 0, sustain := 0, state := .idle, tStage := 0,
             lStage := 0, out := 0 }
    sync := { mode := .free, freq100 := 0, rateIdx := 0, phaseNum := 0, epoch := 0, out := false,
              led := false }
    wd := { last := 0, conn := false }
    tLast := 0
    rxq := []
    inputs := []
    inputCount := 0 }

end Sys2Proof.Machine
end

