-- ==== Sys2Proof/Machine/Ops.lean ====
section
/-! DEFINITION. The arithmetic primitives of 00_scope.md R9, and the named reads and writes of State.
There is no data memory (20_memory.md R40), so no load or store; there is no exception and no return from one
(60_exceptions.md R215, R220), so the operations that would take one do not exist. -/

namespace Sys2Proof.Machine

/-! ## Arithmetic (00_scope.md R9) -/

/-- `(a - b) mod 2^TSW`: the elapsed time from timestamp `b` to timestamp `a` on the wrapping counter. -/
def elapsed (a b : Timestamp) : Timestamp := a - b

/-- `frac(x) = x - floor(x)`, in [0, 1), also for negative `x`. -/
def frac (x : ℚ) : ℚ := x - ⌊x⌋

/-- `rnd(x)`: nearest integer, ties away from zero. -/
def rnd (x : ℚ) : Int := if 0 ≤ x then ⌊x + 1 / 2⌋ else -⌊-x + 1 / 2⌋

/-- `odd(n)`: `n`, of either sign, is not a multiple of 2. -/
def odd (n : Int) : Bool := n % 2 != 0

/-- `Remap(x, lo, hi) = lo + trunc(x * (hi - lo) / 4095)`, the division rounding toward zero. -/
def remap (x lo hi : Int) : Int := lo + Int.tdiv (x * (hi - lo)) 4095

/-- An exact level, an integer, as the 12 bits of a level register; every rule that uses it yields 0..4095
(46_adsr.md R167, 48_output_mixer.md R189), so nothing is cut off. -/
def levelBits (n : Int) : Level := BitVec.ofInt 12 n

/-! ## Reads -/

/-- The timestamp `t` a dispatched command takes as the current one: the iteration's own
(40_protocol_decoder.md R86), which `T_LAST` holds from sub-step 1 of the iteration on (45_lfo_phase.md R140).
DEDUCED, log entry 6, safe. -/
def State.now (s : State) : Timestamp := s.tLast

/-! ## Writes: each replaces one group of registers and nothing else -/

/-- Replace the decoder and frame registers. -/
def State.setDec (s : State) (d : DecRegs) : State := { s with dec := d }

/-- Replace the transport registers. -/
def State.setTransport (s : State) (r : TransportRegs) : State := { s with transport := r }

/-- Replace the registers of channel `c`; the other channel's stay. -/
def State.setOsc (s : State) (c : Channel) (o : OscRegs) : State :=
  { s with
    osc0 := (match c with | .ch0 => o | .ch1 => s.osc0)
    osc1 := (match c with | .ch0 => s.osc1 | .ch1 => o) }

/-- Replace the envelope registers. -/
def State.setEnv (s : State) (e : EnvRegs) : State := { s with env := e }

/-- Replace the sync registers. -/
def State.setSync (s : State) (y : SyncRegs) : State := { s with sync := y }

/-- Replace the watchdog registers. -/
def State.setWd (s : State) (w : WdRegs) : State := { s with wd := w }

/-- Replace the receive queue. -/
def State.setRxq (s : State) (q : List Byte) : State := { s with rxq := q }

/-! ## Reset by the port `rst` -/

/-- What an asserted `rst` does: every register of 10_state.md takes its reset value and `RXQ` is emptied
(70_reset_and_hazards.md R240, R241). What the environment will do later is not the core's to reset. -/
def State.resetCore (s : State) : State :=
  { State.reset with inputs := s.inputs, inputCount := s.inputCount }

/-! ## Inputs of the step (49_watchdog_and_iteration.md R201; log entry 1) -/

/-- What the environment does at this step: the next listed input or, when the list has ended, a free one. -/
def State.nextInput (s : State) : Input :=
  match s.inputs with
  | i :: _ => i
  | [] => Config.environment s.inputCount

/-- The state with that input taken away. -/
def State.dropInput (s : State) : State :=
  { s with
    inputs := s.inputs.tail
    inputCount := (match s.inputs with | _ :: _ => s.inputCount | [] => s.inputCount + 1) }

/-- The host appends bytes to the receive queue, in sending order (00_scope.md R5; 10_state.md R28). -/
def State.receive (s : State) (rx : List Byte) : State := { s with rxq := s.rxq ++ rx }

end Sys2Proof.Machine
end

