-- ==== Sys2Proof/Machine/Decoder.lean ====
section
/-! DEFINITION. The protocol decoder's frame assembly (40_protocol_decoder.md), as a function of its own
registers and one byte. -/

namespace Sys2Proof.Machine

/-- A completed frame `(controlId, value)` (R84). -/
abbrev Frame := Byte × Value

/-- `DecStep(b)` without the dispatch (R80 to R84, R87): the decoder's registers after the byte, and the frame
it emits, if any. A byte other than 255 in AwaitSync is lost and writes nothing (R81); bytes 1 to 3 of a frame
may take any value, 255 included (R82 to R84). -/
def decByte (d : DecRegs) (b : Byte) : DecRegs × Option Frame :=
  match d.state with
  | .awaitSync => (if b = syncByte then { d with sync := b, state := .awaitControl } else d, none)
  | .awaitControl => ({ d with ctrl := b, state := .awaitValueHigh }, none)
  | .awaitValueHigh => ({ d with vh := b, state := .awaitValueLow }, none)
  | .awaitValueLow => ({ d with vl := b, state := .awaitSync }, some (d.ctrl, frameValue d.vh b))

/-- The decoder's registers after a list of bytes, and the frames emitted, in order: what one `DecStep` per
iteration does over several iterations (R85; the bytes of a frame may lie any number of iterations apart). -/
def decBytes (d : DecRegs) (bytes : List Byte) : DecRegs × List Frame :=
  match bytes with
  | [] => (d, [])
  | b :: rest =>
    ((decBytes (decByte d b).1 rest).1,
      (decByte d b).2.toList ++ (decBytes (decByte d b).1 rest).2)

end Sys2Proof.Machine
end

