-- ==== Sys2Proof/Machine/Operands.lean ====
section
/-! DEFINITION. The conversions of a command's value (30_encoding.md R67), the two read-only tables
(20_memory.md R43, R44, R45) and the measure gate (41_cmd_transport.md R92). -/

namespace Sys2Proof.Machine

/-! ## Conversions (30_encoding.md R67) -/

/-- "enumeration": 0 selects the free mode, any other value the tempo mode. -/
def modeOf (v : Value) : Mode := if v = 0 then .free else .tempo

/-- "boolean": 0 is false, any other value true. -/
def enableOf (v : Value) : Bool := v != 0

/-- "inverted degrees": `360 - v`, signed, -65175..360, not wrapped and not clamped. -/
def phaseNumOf (v : Value) : PhaseNum := BitVec.ofInt 17 (360 - (v.toNat : Int))

/-- "milliseconds": `v * 1000` microseconds, at most 65535000. -/
def microsOf (v : Value) : BitVec 32 := BitVec.ofNat 32 (v.toNat * 1000)

/-! ## The rate table (20_memory.md R43, R44) -/

/-- `RATE_E5(i)` for `i` in 0..23: the source's literals times 10^5. -/
def rateTable : List Nat :=
  [6400000, 4800000, 3200000, 2400000, 1600000, 1200000, 800000, 600000,
   533300, 400000, 320000, 300000, 266700, 200000, 133300, 100000,
   66700, 50000, 33300, 25000, 16700, 12500, 6250, 3125]

/-- `RATE_E5(i)`: the table's entry, or for an index of 24 or more `RateOOR(i)`, an unknown positive integer
(R44; FREE, log entry 5). -/
def rateE5 (i : BitVec 16) : Nat :=
  match rateTable[i.toNat]? with
  | some r => r
  | none => Config.rateOOR i + 1

/-! ## The sustain table (20_memory.md R45) -/

/-- `x^1000`, as three tenth powers. -/
def pow1000 (x : Nat) : Nat := ((x ^ 10) ^ 10) ^ 10

/-- `10^v` for `v` up to 65535, with small exponents only. -/
def tenPow (v : Nat) : Nat := (10 ^ 256) ^ (v / 256) * 10 ^ (v % 256)

/-- Whether `r <= 131040 * 10^(-v/1000)`: both sides raised to the power 1000 and multiplied by `10^v`, so that
the comparison is one of whole numbers. -/
def belowAttenuated (v r : Nat) : Bool := decide (pow1000 r * tenPow v ≤ pow1000 131040)

/-- The greatest `r` with `a <= r < a + 2^bits` and `r <= 131040 * 10^(-v/1000)`, found bit by bit, given that
`a` is itself not above. -/
def attenuatedFloor (v : Nat) (bits a : Nat) : Nat :=
  match bits with
  | 0 => a
  | b + 1 =>
    match belowAttenuated v (a + 2 ^ b) with
    | true => attenuatedFloor v b (a + 2 ^ b)
    | false => attenuatedFloor v b a

/-- `SustainMap(v) = floor(4095 * 16 * 10^(-v/1000) + 1/2)`, in units of 1/16 (20_memory.md R45): with
`y = 131040 * 10^(-v/1000)` this is `floor((y + 1)/2)`, which is `(floor(y) + 1) div 2`. -/
def sustainMap (v : Value) : BitVec 16 := BitVec.ofNat 16 ((attenuatedFloor v.toNat 17 0 + 1) / 2)

/-! ## The measure gate (41_cmd_transport.md R92) -/

/-- `MeasureGate(v, i) = (((1000000 * (v - 1)) div RATE_E5(i)) mod 10 = 0)`, for `v` in 1..65535. -/
def measureGate (v : Value) (i : BitVec 16) : Bool :=
  1000000 * (v.toNat - 1) / rateE5 i % 10 == 0

end Sys2Proof.Machine
end

