-- ==== Sys2Proof/Machine/Envelope.lean ====
section
/-! DEFINITION. The ADSR state machine and envelope sample generator (46_adsr.md) and the five envelope
commands (43_cmd_envelope.md). -/

namespace Sys2Proof.Machine

/-! ## Curve shapes (46_adsr.md R157) -/

/-- A curve made from an unknown monotone function: it is 0 at 0 (K1), within 0..1 (K2), non-decreasing (K3),
and depends on its argument only (K4). Every curve with these properties on [0, 1) arises so. Log entry 4. -/
def curveOf (shape : ℚ →o ℚ) (x : ℚ) : ℚ := max 0 (min 1 (shape x - shape 0))

/-- `CurveA`, FREE but for K1 to K4. -/
def curveA (x : ℚ) : ℚ := curveOf Config.attackShape x

/-- `CurveD`, FREE but for K1 to K4. -/
def curveD (x : ℚ) : ℚ := curveOf Config.decayShape x

/-- `CurveR`, FREE but for K1 to K4. -/
def curveR (x : ℚ) : ℚ := curveOf Config.releaseShape x

/-! ## Levels inside a stage, from the completed fraction `y` of the stage's change (R159, R160, R165) -/

/-- `L + floor((4095 - L) * y)` (R159). -/
def attackLevel (lStage : Level) (y : ℚ) : Int := lStage.toNat + ⌊(4095 - (lStage.toNat : ℚ)) * y⌋

/-- `floor(4095 - (4095 - S) * y)` with `S = ENV_SUSTAIN / 16` (R160). -/
def decayLevel (sustain : BitVec 16) (y : ℚ) : Int := ⌊4095 - (4095 - (sustain.toNat : ℚ) / 16) * y⌋

/-- `floor(ENV_SUSTAIN / 16)` (R161). -/
def sustainLevel (sustain : BitVec 16) : Int := (sustain.toNat / 16 : Nat)

/-- `floor(L * (1 - y))` (R165). -/
def releaseLevel (lStage : Level) (y : ℚ) : Int := ⌊(lStage.toNat : ℚ) * (1 - y)⌋

/-- The elapsed fraction `e / T` of a stage, used only under the guard `e < T` (00_scope.md R34). -/
def stageFraction (e T : BitVec 32) : ℚ := (e.toNat : ℚ) / (T.toNat : ℚ)

/-! ## The update (46_adsr.md R158 to R165) -/

/-- What one `EnvTick` decides: the state it ends in, the stage timestamp and the exact level `lvl`. -/
structure EnvUpdate where
  state : EnvState
  tStage : Timestamp
  lvl : Int
deriving DecidableEq, Repr

/-- Sustain (R161). -/
def tickSustain (tStage : Timestamp) (e : EnvRegs) : EnvUpdate :=
  { state := .sustain, tStage := tStage, lvl := sustainLevel e.sustain }

/-- Decay, dated from `tStage` (R160); when over, Sustain is evaluated in the same update. -/
def tickDecay (t tStage : Timestamp) (e : EnvRegs) : EnvUpdate :=
  if (elapsed t tStage).toNat < e.decayUs.toNat then
    { state := .decay, tStage := tStage,
      lvl := decayLevel e.sustain (curveD (stageFraction (elapsed t tStage) e.decayUs)) }
  else tickSustain tStage e

/-- Attack (R159); when over, the decay starts where the attack ended and is evaluated in the same update. -/
def tickAttack (t : Timestamp) (e : EnvRegs) : EnvUpdate :=
  if (elapsed t e.tStage).toNat < e.attackUs.toNat then
    { state := .attack, tStage := e.tStage,
      lvl := attackLevel e.lStage (curveA (stageFraction (elapsed t e.tStage) e.attackUs)) }
  else tickDecay t (e.tStage + e.attackUs) e

/-- Release (R165). -/
def tickRelease (t : Timestamp) (e : EnvRegs) : EnvUpdate :=
  if (elapsed t e.tStage).toNat < e.releaseUs.toNat then
    { state := .release, tStage := e.tStage,
      lvl := releaseLevel e.lStage (curveR (stageFraction (elapsed t e.tStage) e.releaseUs)) }
  else { state := .idle, tStage := e.tStage, lvl := 0 }

/-- The evaluation of the current state's rule (R158); Idle yields 0. -/
def envEval (t : Timestamp) (e : EnvRegs) : EnvUpdate :=
  match e.state with
  | .idle => { state := .idle, tStage := e.tStage, lvl := 0 }
  | .attack => tickAttack t e
  | .decay => tickDecay t e.tStage e
  | .sustain => tickSustain e.tStage e
  | .release => tickRelease t e

/-- The envelope registers after sub-step 3 of the iteration, `EnvTick(t)` (R158), with `ENV_OUT <- lvl`
(R164). -/
def envTickRegs (t : Timestamp) (e : EnvRegs) : EnvRegs :=
  { e with
    state := (envEval t e).state
    tStage := (envEval t e).tStage
    out := levelBits (envEval t e).lvl }

/-! ## The events (46_adsr.md R162, R163) -/

/-- `NoteOn(t)`, in any state: an attack from the current output level (R162). -/
def noteOn (t : Timestamp) (e : EnvRegs) : EnvRegs :=
  { e with lStage := e.out, tStage := t, state := .attack }

/-- Whether a note-off has a gate to close: the states Attack, Decay and Sustain (R163). -/
def gateOpen (st : EnvState) : Bool :=
  match st with
  | .attack | .decay | .sustain => true
  | .idle | .release => false

/-- `NoteOff(t)`: a release from the current output level, only when the gate is open (R163). -/
def noteOff (t : Timestamp) (e : EnvRegs) : EnvRegs :=
  if gateOpen e.state then { e with lStage := e.out, tStage := t, state := .release } else e

/-! ## The commands (43_cmd_envelope.md) -/

/-- ENV_ATTACK: `ENV_ATTACK_US <- value * 1000` (R120). -/
def execEnvAttack (value : Value) (s : State) : Host.Outcome State Fault Refusal :=
  .next (s.setEnv { s.env with attackUs := microsOf value })

/-- ENV_DECAY: `ENV_DECAY_US <- value * 1000` (R121). -/
def execEnvDecay (value : Value) (s : State) : Host.Outcome State Fault Refusal :=
  .next (s.setEnv { s.env with decayUs := microsOf value })

/-- ENV_SUSTAIN: `ENV_SUSTAIN <- SustainMap(value)` (R122). -/
def execEnvSustain (value : Value) (s : State) : Host.Outcome State Fault Refusal :=
  .next (s.setEnv { s.env with sustain := sustainMap value })

/-- ENV_RELEASE: `ENV_RELEASE_US <- value * 1000` (R123). -/
def execEnvRelease (value : Value) (s : State) : Host.Outcome State Fault Refusal :=
  .next (s.setEnv { s.env with releaseUs := microsOf value })

/-- ENV_TRIGGER: 1 is a note-on, 0 a note-off, both at the iteration's timestamp; every other value does
nothing (R124). -/
def execEnvTrigger (value : Value) (s : State) : Host.Outcome State Fault Refusal :=
  .next (s.setEnv
    (if value = 1 then noteOn s.now s.env else if value = 0 then noteOff s.now s.env else s.env))

end Sys2Proof.Machine
end

