-- ==== Sys2Proof/Machine/Oscillator.lean ====
section
/-! DEFINITION. The sixteen oscillator commands (42_cmd_oscillator.md): the eight register writes of a channel,
and one meaning per command over them. -/

namespace Sys2Proof.Machine

/-! ## The eight writes, on the registers of one channel -/

/-- `OSC[c].MODE <- (if value = 0 then 0 else 1)` (R100, R110). -/
def writeMode (value : Value) (o : OscRegs) : OscRegs := { o with mode := modeOf value }

/-- `OSC[c].FREQ100 <- value`; the accumulator already stands at `t` (R101, R111). -/
def writeFreq (value : Value) (o : OscRegs) : OscRegs := { o with freq100 := value }

/-- `OSC[c].RATE_IDX <- value`, unchecked (R102, R112). -/
def writeRate (value : Value) (o : OscRegs) : OscRegs := { o with rateIdx := value }

/-- `OSC[c].WAVE <- value` (R103, R113). -/
def writeWave (value : Value) (o : OscRegs) : OscRegs := { o with wave := value }

/-- `OSC[c].AMP <- value`, unclamped; `AMP_EFF` is the mixer's to write (R104, R114). -/
def writeAmp (value : Value) (o : OscRegs) : OscRegs := { o with amp := value }

/-- `OSC[c].OFFSET <- value`, unsigned, unclamped (R105, R115). -/
def writeOffset (value : Value) (o : OscRegs) : OscRegs := { o with offset := value }

/-- `OSC[c].PHASE_NUM <- 360 - value` (R106, R116). -/
def writePhase (value : Value) (o : OscRegs) : OscRegs := { o with phaseNum := phaseNumOf value }

/-- `OSC[c].ENV_EN <- (if value = 0 then 0 else 1)` (R107, R117). -/
def writeEnvEn (value : Value) (o : OscRegs) : OscRegs := { o with envEn := enableOf value }

/-! ## Channel 0 -/

/-- OSC0_MODE (R100). -/
def execOsc0Mode (value : Value) (s : State) : Host.Outcome State Fault Refusal :=
  .next (s.setOsc .ch0 (writeMode value s.osc0))

/-- OSC0_FREQ (R101). -/
def execOsc0Freq (value : Value) (s : State) : Host.Outcome State Fault Refusal :=
  .next (s.setOsc .ch0 (writeFreq value s.osc0))

/-- OSC0_RATE (R102). -/
def execOsc0Rate (value : Value) (s : State) : Host.Outcome State Fault Refusal :=
  .next (s.setOsc .ch0 (writeRate value s.osc0))

/-- OSC0_WAVE (R103). -/
def execOsc0Wave (value : Value) (s : State) : Host.Outcome State Fault Refusal :=
  .next (s.setOsc .ch0 (writeWave value s.osc0))

/-- OSC0_AMP (R104). -/
def execOsc0Amp (value : Value) (s : State) : Host.Outcome State Fault Refusal :=
  .next (s.setOsc .ch0 (writeAmp value s.osc0))

/-- OSC0_OFFSET (R105). -/
def execOsc0Offset (value : Value) (s : State) : Host.Outcome State Fault Refusal :=
  .next (s.setOsc .ch0 (writeOffset value s.osc0))

/-- OSC0_PHASE (R106). -/
def execOsc0Phase (value : Value) (s : State) : Host.Outcome State Fault Refusal :=
  .next (s.setOsc .ch0 (writePhase value s.osc0))

/-- OSC0_ENV (R107). -/
def execOsc0Env (value : Value) (s : State) : Host.Outcome State Fault Refusal :=
  .next (s.setOsc .ch0 (writeEnvEn value s.osc0))

/-! ## Channel 1 -/

/-- OSC1_MODE (R110). -/
def execOsc1Mode (value : Value) (s : State) : Host.Outcome State Fault Refusal :=
  .next (s.setOsc .ch1 (writeMode value s.osc1))

/-- OSC1_FREQ (R111). -/
def execOsc1Freq (value : Value) (s : State) : Host.Outcome State Fault Refusal :=
  .next (s.setOsc .ch1 (writeFreq value s.osc1))

/-- OSC1_RATE (R112). -/
def execOsc1Rate (value : Value) (s : State) : Host.Outcome State Fault Refusal :=
  .next (s.setOsc .ch1 (writeRate value s.osc1))

/-- OSC1_WAVE (R113). -/
def execOsc1Wave (value : Value) (s : State) : Host.Outcome State Fault Refusal :=
  .next (s.setOsc .ch1 (writeWave value s.osc1))

/-- OSC1_AMP (R114). -/
def execOsc1Amp (value : Value) (s : State) : Host.Outcome State Fault Refusal :=
  .next (s.setOsc .ch1 (writeAmp value s.osc1))

/-- OSC1_OFFSET (R115). -/
def execOsc1Offset (value : Value) (s : State) : Host.Outcome State Fault Refusal :=
  .next (s.setOsc .ch1 (writeOffset value s.osc1))

/-- OSC1_PHASE (R116). -/
def execOsc1Phase (value : Value) (s : State) : Host.Outcome State Fault Refusal :=
  .next (s.setOsc .ch1 (writePhase value s.osc1))

/-- OSC1_ENV (R117). -/
def execOsc1Env (value : Value) (s : State) : Host.Outcome State Fault Refusal :=
  .next (s.setOsc .ch1 (writeEnvEn value s.osc1))

end Sys2Proof.Machine
end

