-- ==== Sys2Proof/Machine/Flags.lean ====
section
/-! DEFINITION. The one-bit outputs. The core has no condition codes (10_state.md R30); what it computes as one
bit is the level of a phase (47_sync_clock.md R178, 48_output_mixer.md R190) and the watchdog's time-out
(49_watchdog_and_iteration.md R196). -/

namespace Sys2Proof.Machine

/-- `odd(rnd(2 * ph))`: a 50%-duty square wave of the phase `ph` in cycles (R178, R190). -/
def phaseLevel (ph : ℚ) : Bool := odd (rnd (2 * ph))

/-- `WD_TIMEOUT`, timestamp units (00_scope.md R7). -/
def wdTimeout : Nat := 500000

/-- `((t - last) mod 2^32) >= 500000` (R196): an elapsed time of exactly 500000 is a time-out. -/
def timedOut (t last : Timestamp) : Bool := decide (wdTimeout ≤ (elapsed t last).toNat)

end Sys2Proof.Machine
end

