-- ==== Sys2Proof/Machine/Phase.lean ====
section
/-! DEFINITION. The LFO phase accumulators, the phase of a channel and the oscillator's sample port
(45_lfo_phase.md). -/

namespace Sys2Proof.Machine

/-- `ACC_MOD` = 10^8: one cycle in units of the accumulator (00_scope.md R7). -/
def accMod : Nat := 100000000

/-- `(ACC + d * FREQ100) mod 10^8` (R141), exact before the one wrap. -/
def accNext (acc : BitVec 27) (d : BitVec 32) (freq100 : BitVec 16) : BitVec 27 :=
  BitVec.ofNat 27 ((acc.toNat + d.toNat * freq100.toNat) % accMod)

/-- A channel's registers after sub-step 2 of the iteration: the accumulator advanced by `d` microseconds, in
either mode (R141). -/
def advanceOsc (d : BitVec 32) (o : OscRegs) : OscRegs := { o with acc := accNext o.acc d o.freq100 }

/-- Cycles since an epoch in tempo mode: `elapsed * RATE_E5 * BPM10 / (6*10^13)`, exact (R142, and the first
term of 47_sync_clock.md R177). -/
def tempoCycles (t epoch : Timestamp) (rateIdx bpm10 : BitVec 16) : ℚ :=
  ((elapsed t epoch).toNat * rateE5 rateIdx * bpm10.toNat : Nat) / 60000000000000

/-- The base phase of a channel, before the offset: the accumulator in free mode, `TempoBase` in tempo mode
(R143). -/
def oscBase (t : Timestamp) (bpm10 : BitVec 16) (o : OscRegs) : ℚ :=
  match o.mode with
  | .free => (o.acc.toNat : ℚ) / 100000000
  | .tempo => tempoCycles t o.tEpoch o.rateIdx bpm10

/-- `OscPhase(c, t) = frac(base + PHASE_NUM / 360)`, in [0, 1) (R143). -/
def oscPhase (t : Timestamp) (bpm10 : BitVec 16) (o : OscRegs) : ℚ :=
  frac (oscBase t bpm10 o + (o.phaseNum.toInt : ℚ) / 360)

/-- `OscSample(w, a, o, p)` (R146): for the waveform 0 and an offset of at most 4095 the offset itself (O1);
otherwise FREE, a function of the four operands (O2) with values in 0..4095 (O3), log entry 3. -/
def oscSample (w a o : BitVec 16) (p : ℚ) : Level :=
  if w = 0 ∧ o.toNat ≤ 4095 then o.setWidth 12 else Config.oscShape w a o p

end Sys2Proof.Machine
end

