-- ==== Sys2Proof/Machine/Sync.lean ====
section
/-! DEFINITION. The sync clock generator (47_sync_clock.md) and the four sync commands (44_cmd_sync.md). -/

namespace Sys2Proof.Machine

/-- The sync phase `ph`, in cycles: `t * SYNC_FREQ100 / 10^8` over the absolute timestamp and without the offset
in free mode (R176); the tempo formula since the epoch plus `SYNC_PHASE_NUM / 360`, unwrapped, in tempo-locked
mode (R177). -/
def syncPhaseAt (t : Timestamp) (bpm10 : BitVec 16) (y : SyncRegs) : ℚ :=
  match y.mode with
  | .free => (t.toNat * y.freq100.toNat : Nat) / 100000000
  | .tempo => tempoCycles t y.epoch y.rateIdx bpm10 + (y.phaseNum.toInt : ℚ) / 360

/-- The sync registers after sub-step 5 of the iteration, `SyncTick(t)` (R175): `SYNC_OUT` and `LED_SYNC` take the same level (R178). -/
def syncRegsAt (t : Timestamp) (bpm10 : BitVec 16) (y : SyncRegs) : SyncRegs :=
  { y with
    out := phaseLevel (syncPhaseAt t bpm10 y)
    led := phaseLevel (syncPhaseAt t bpm10 y) }

/-- SYNC_MODE: `SYNC_MODE <- (if value = 0 then 0 else 1)` (44_cmd_sync.md R130). -/
def execSyncMode (value : Value) (s : State) : Host.Outcome State Fault Refusal :=
  .next (s.setSync { s.sync with mode := modeOf value })

/-- SYNC_FREQ: `SYNC_FREQ100 <- value` (R131). -/
def execSyncFreq (value : Value) (s : State) : Host.Outcome State Fault Refusal :=
  .next (s.setSync { s.sync with freq100 := value })

/-- SYNC_RATE: `SYNC_RATE_IDX <- value`, unchecked (R132). -/
def execSyncRate (value : Value) (s : State) : Host.Outcome State Fault Refusal :=
  .next (s.setSync { s.sync with rateIdx := value })

/-- SYNC_PHASE: `SYNC_PHASE_NUM <- 360 - value` (R133). -/
def execSyncPhase (value : Value) (s : State) : Host.Outcome State Fault Refusal :=
  .next (s.setSync { s.sync with phaseNum := phaseNumOf value })

end Sys2Proof.Machine
end

