-- ==== Sys2Proof/Machine/Transport.lean ====
section
/-! DEFINITION. The transport commands (41_cmd_transport.md). -/

namespace Sys2Proof.Machine

/-- SONG_BPM: `BPM10 <- value`, the one tempo register of all generators (R90; 10_state.md R14). -/
def execSongBpm (value : Value) (s : State) : Host.Outcome State Fault Refusal :=
  .next (s.setTransport { s.transport with bpm10 := value })

/-- The resynchronisation of one channel at a nonzero measure: `TEPOCH <- t` when the channel is in tempo mode
and the gate passes for its own rate index (R91, 45_lfo_phase.md R144). -/
def resyncOsc (t : Timestamp) (value : Value) (o : OscRegs) : OscRegs :=
  { o with tEpoch := if o.mode = .tempo ∧ measureGate value o.rateIdx then t else o.tEpoch }

/-- The same for the sync generator: `SYNC_EPOCH <- t` (R91). -/
def resyncSync (t : Timestamp) (value : Value) (y : SyncRegs) : SyncRegs :=
  { y with epoch := if y.mode = .tempo ∧ measureGate value y.rateIdx then t else y.epoch }

/-- SONG_MEASURE (R91): `MEASURE <- value`; for 0 the measure LED goes off and nothing else happens; for a
nonzero value every tempo-mode generator whose gate passes is resynchronised to the iteration's timestamp and
the LED toggles. -/
def execSongMeasure (value : Value) (s : State) : Host.Outcome State Fault Refusal :=
  if value = 0 then
    .next (s.setTransport { s.transport with measure := value, ledMeasure := false })
  else
    .next ((((s.setOsc .ch0 (resyncOsc s.now value s.osc0)).setOsc .ch1 (resyncOsc s.now value s.osc1)).setSync
      (resyncSync s.now value s.sync)).setTransport
        { s.transport with measure := value, ledMeasure := !s.transport.ledMeasure })

end Sys2Proof.Machine
end

