-- ==== Sys2Proof/Machine/Dispatch.lean ====
section
/-! DEFINITION. The dispatcher (40_protocol_decoder.md R86): one arm per command of 30_encoding.md R65. -/

namespace Sys2Proof.Machine

-- The current timestamp of a command is the iteration's own, `State.now` (Machine/Ops.lean).
def exec (i : Instr) (s : State) : Host.Outcome State Fault Refusal :=
  match i with
  | .envAttack value => Sys2Proof.Machine.execEnvAttack value s
  | .envDecay value => Sys2Proof.Machine.execEnvDecay value s
  | .envSustain value => Sys2Proof.Machine.execEnvSustain value s
  | .envRelease value => Sys2Proof.Machine.execEnvRelease value s
  | .envTrigger value => Sys2Proof.Machine.execEnvTrigger value s
  | .syncMode value => Sys2Proof.Machine.execSyncMode value s
  | .syncFreq value => Sys2Proof.Machine.execSyncFreq value s
  | .syncRate value => Sys2Proof.Machine.execSyncRate value s
  | .syncPhase value => Sys2Proof.Machine.execSyncPhase value s
  | .osc0Mode value => Sys2Proof.Machine.execOsc0Mode value s
  | .osc0Freq value => Sys2Proof.Machine.execOsc0Freq value s
  | .osc0Rate value => Sys2Proof.Machine.execOsc0Rate value s
  | .osc0Wave value => Sys2Proof.Machine.execOsc0Wave value s
  | .osc0Amp value => Sys2Proof.Machine.execOsc0Amp value s
  | .osc0Offset value => Sys2Proof.Machine.execOsc0Offset value s
  | .osc0Phase value => Sys2Proof.Machine.execOsc0Phase value s
  | .osc0Env value => Sys2Proof.Machine.execOsc0Env value s
  | .osc1Mode value => Sys2Proof.Machine.execOsc1Mode value s
  | .osc1Freq value => Sys2Proof.Machine.execOsc1Freq value s
  | .osc1Rate value => Sys2Proof.Machine.execOsc1Rate value s
  | .osc1Wave value => Sys2Proof.Machine.execOsc1Wave value s
  | .osc1Amp value => Sys2Proof.Machine.execOsc1Amp value s
  | .osc1Offset value => Sys2Proof.Machine.execOsc1Offset value s
  | .osc1Phase value => Sys2Proof.Machine.execOsc1Phase value s
  | .osc1Env value => Sys2Proof.Machine.execOsc1Env value s
  | .songBpm value => Sys2Proof.Machine.execSongBpm value s
  | .songMeasure value => Sys2Proof.Machine.execSongMeasure value s

end Sys2Proof.Machine
end

