-- ==== Sys2Proof/Machine/Mixer.lean ====
section
/-! DEFINITION. The output mixer: envelope times oscillator, per channel (48_output_mixer.md). -/

namespace Sys2Proof.Machine

/-- `AMP_EFF` after the mixer (R186, R187, R188): the configured amplitude without the envelope; unchanged for
the DC waveform with the envelope; the envelope-scaled amplitude for a periodic waveform with the envelope. -/
def mixAmpEff (envOut : Level) (o : OscRegs) : BitVec 16 :=
  if o.envEn then
    if o.wave = 0 then o.ampEff else BitVec.ofInt 16 (remap envOut.toNat 0 o.amp.toNat)
  else o.amp

/-- The value `out` of the mixer (R186, R187, R188), from the oscillator's sample at phase `p` taken with the
effective amplitude the rule has just fixed (R191). -/
def mixOut (envOut : Level) (p : ℚ) (o : OscRegs) : Level :=
  if o.envEn ∧ o.wave = 0 then
    levelBits (remap envOut.toNat (oscSample 0 (mixAmpEff envOut o) o.offset p).toNat 4095)
  else oscSample o.wave (mixAmpEff envOut o) o.offset p

/-- The registers of one channel after sub-step 4 of the iteration, `Mixer(c, t)` (R185): `AMP_EFF`, `DAC[c] <- out` (R189) and
`LED_OSC[c] <- odd(rnd(2 * OscPhase))` (R190). -/
def mixRegs (t : Timestamp) (bpm10 : BitVec 16) (envOut : Level) (o : OscRegs) : OscRegs :=
  { o with
    ampEff := mixAmpEff envOut o
    dac := mixOut envOut (oscPhase t bpm10 o) o
    ledOsc := phaseLevel (oscPhase t bpm10 o) }

end Sys2Proof.Machine
end

