-- ==== Sys2Proof/Machine/Watchdog.lean ====
section
/-! DEFINITION. The connection watchdog timer (49_watchdog_and_iteration.md R195 to R197). -/

namespace Sys2Proof.Machine

/-- The watchdog after sub-step 6 of the iteration, the time-out check: `WD_CONN` falls when it is on and 500000
or more have passed since `WD_LAST`, which keeps its value (R196). -/
def wdCheck (t : Timestamp) (w : WdRegs) : WdRegs := { w with conn := w.conn && !timedOut t w.last }

/-- The byte rule: `WD_LAST <- t`, `WD_CONN <- 1`, for every byte consumed (R197). -/
def wdByte (t : Timestamp) : WdRegs := { last := t, conn := true }

end Sys2Proof.Machine
end

