-- ==== Sys2Proof/Machine/Iteration.lean ====
section
/-! DEFINITION. One iteration (49_watchdog_and_iteration.md R199, R200) and one step of the machine with its
inputs (R201). Machine/Step.lean only calls `runInput`. -/

namespace Sys2Proof.Machine

/-- Sub-steps 1 to 6 of the iteration with the one timestamp `t` (R200), each reading what the ones before it
wrote: 1. `d <- (t - T_LAST) mod 2^32`, `T_LAST <- t` (45_lfo_phase.md R140); 2. both accumulators advance by `d`;
3. `EnvTick`; 4. the mixer of channel 0 and of channel 1, with the accumulators of 2 and the envelope sample of 3;
5. `SyncTick`; 6. the watchdog's time-out check. -/
def generators (t : Timestamp) (s : State) : State :=
  { s with
    tLast := t
    env := envTickRegs t s.env
    osc0 := mixRegs t s.transport.bpm10 (envTickRegs t s.env).out
      (advanceOsc (elapsed t s.tLast) s.osc0)
    osc1 := mixRegs t s.transport.bpm10 (envTickRegs t s.env).out
      (advanceOsc (elapsed t s.tLast) s.osc1)
    sync := syncRegsAt t s.transport.bpm10 s.sync
    wd := wdCheck t s.wd }

/-- The dispatch of an emitted frame (40_protocol_decoder.md R86): the command its control id selects is carried
out; a frame whose control id names no command is a no-operation (30_encoding.md R66). -/
def dispatchFrame (f : Frame) (s : State) : Host.Outcome State Fault Refusal :=
  match lookup f.1 f.2 with
  | .ok i => exec i s
  | .error _ => .next s

/-- `DecStep(b)` with the dispatch inside it (R80, R86). -/
def decStep (b : Byte) (s : State) : Host.Outcome State Fault Refusal :=
  match (decByte s.dec b).2 with
  | some f => dispatchFrame f (s.setDec (decByte s.dec b).1)
  | none => .next (s.setDec (decByte s.dec b).1)

/-- Sub-step 7, the byte poll (R199): at most one byte, the oldest, is popped; the watchdog's byte rule comes
before the decoder (R197). -/
def bytePoll (t : Timestamp) (s : State) : Host.Outcome State Fault Refusal :=
  match s.rxq with
  | [] => .next s
  | b :: q => decStep b ((s.setRxq q).setWd (wdByte t))

/-- One iteration with the timestamp `t` (R200). -/
def iterate (t : Timestamp) (s : State) : Host.Outcome State Fault Refusal := bytePoll t (generators t s)

/-- One step with its input (R201): a tick brings the bytes that have arrived and runs one iteration; `rst`
resets the core and loses the bytes sent meanwhile (70_reset_and_hazards.md R240, R241). -/
def runInput (i : Input) (s : State) : Host.Outcome State Fault Refusal :=
  match i with
  | .tick t rx => iterate t (s.receive rx)
  | .rst _ => .next s.resetCore

/-- The state in which the first three bytes of a frame word have been received and the fourth is the oldest byte
of the queue, with an iteration at the unchanged timestamp coming next: the very next step completes the frame
and dispatches its command. Log entry 2. -/
def placeFrameWord (s : State) (nbits w : Nat) : State :=
  { s with
    dec := (decBytes { s.dec with state := .awaitSync } ((wordBytes nbits w).take 3)).1
    rxq := (wordBytes nbits w).drop 3 ++ s.rxq
    inputs := .tick s.tLast [] :: s.inputs }

end Sys2Proof.Machine
end

