-- ==== Sys2Proof/Machine/Step.lean ====
section
/-! DEFINITION. The step of the machine: one input, one iteration (49_watchdog_and_iteration.md R200, R201). -/

namespace Sys2Proof.Machine

/-- One step: take what the environment does next and run it (R201). -/
def step (s : State) : Host.Outcome State Fault Refusal := runInput s.nextInput s.dropInput

/-- `s` with the command's frame word placed where the next step completes it (log entry 2). -/
def State.withFetchWord (s : State) (nbits w : Nat) : State := placeFrameWord s nbits w

end Sys2Proof.Machine
end

