-- ==== Sys2Proof/Safety.lean ====
section
/-! DEFINITION. What a sound state is, in the terms the statements use: the ranges and relations the spec gives the
registers and every iteration keeps. There is no faulting run (60_exceptions.md R215). -/

namespace Sys2Proof.Machine

/-- `PHASE_NUM` holds `360 - value`: -65175..360 (10_state.md R15, R18). -/
abbrev phaseNumInRange (n : PhaseNum) : Prop := -65175 ≤ n.toInt ∧ n.toInt ≤ 360

/-- An envelope time holds `value * 1000`: a multiple of 1000, at most 65535000 (10_state.md R16). -/
abbrev timeInRange (us : BitVec 32) : Prop := us.toNat % 1000 = 0 ∧ us.toNat ≤ 65535000

/-- A channel: the accumulator below 10^8 (10_state.md R20), the phase numerator in range (R15). -/
abbrev oscSound (o : OscRegs) : Prop := o.acc.toNat < 100000000 ∧ phaseNumInRange o.phaseNum

/-- The envelope: times and sustain level in range (10_state.md R16, R17); Idle holds 0, Attack does not fall
below the level it started from, Release does not rise above it (46_adsr.md R155, R159, R165). -/
abbrev envSound (e : EnvRegs) : Prop :=
  timeInRange e.attackUs ∧ timeInRange e.decayUs ∧ timeInRange e.releaseUs ∧ e.sustain.toNat ≤ 65520 ∧
  (e.state = .idle → e.out = 0) ∧
  (e.state = .attack → e.lStage.toNat ≤ e.out.toNat) ∧
  (e.state = .release → e.out.toNat ≤ e.lStage.toNat)

/-- The sync generator: `LED_SYNC` equals `SYNC_OUT` (10_state.md R27), the phase numerator in range (R18). -/
abbrev syncSound (y : SyncRegs) : Prop := y.led = y.out ∧ phaseNumInRange y.phaseNum

/-- The decoder: `FR_SYNC` is only ever written with 255 (10_state.md R13), and inside a frame it has been. -/
abbrev decSound (d : DecRegs) : Prop :=
  (d.sync = 0#8 ∨ d.sync = 255#8) ∧ (d.state ≠ .awaitSync → d.sync = 255#8)

/-- The transport: the measure LED is off while the transport is stopped (41_cmd_transport.md R91). -/
abbrev transportSound (r : TransportRegs) : Prop := r.measure = 0 → r.ledMeasure = false

/-- A state as the spec describes the registers (10_state.md R12 to R27). -/
abbrev State.sound (s : State) : Prop :=
  decSound s.dec ∧ transportSound s.transport ∧ oscSound s.osc0 ∧ oscSound s.osc1 ∧ envSound s.env ∧
  syncSound s.sync

/-- No generator's rate index is outside the table of 24 entries, so no rule reads the unknown `RateOOR`
(20_memory.md R44; 93_implementation_defined.md U2). -/
abbrev State.ratesInTable (s : State) : Prop :=
  s.osc0.rateIdx.toNat < 24 ∧ s.osc1.rateIdx.toNat < 24 ∧ s.sync.rateIdx.toNat < 24

/-- The oldest byte, with the bytes `rx` arriving, completes a frame with this control id and value
(40_protocol_decoder.md R84, R85). -/
abbrev State.frameCompletes (s : State) (rx : List Byte) (id : Byte) (v : Value) : Prop :=
  ∃ b q, s.rxq ++ rx = b :: q ∧ s.dec.state = .awaitValueLow ∧ s.dec.ctrl = id ∧ frameValue s.dec.vh b = v

/-- The host-writable registers of one channel (10_state.md R15). -/
structure OscConfig where
  mode : Mode
  freq100 : BitVec 16
  rateIdx : BitVec 16
  wave : BitVec 16
  amp : BitVec 16
  offset : BitVec 16
  phaseNum : PhaseNum
  envEn : Bool
deriving DecidableEq, Repr

/-- The four host-writable registers of the sync generator, the eight of a channel and the six of transport and
envelope: the 26 configuration registers (10_state.md R14 to R18), each written by one command and by nothing
else. -/
structure HostConfig where
  bpm10 : BitVec 16
  measure : BitVec 16
  osc0 : OscConfig
  osc1 : OscConfig
  env : BitVec 32 × BitVec 32 × BitVec 32 × BitVec 16
  sync : Mode × BitVec 16 × BitVec 16 × PhaseNum
deriving DecidableEq, Repr

/-- The host-writable registers of one channel, read off its registers. -/
def oscConfig (o : OscRegs) : OscConfig :=
  { mode := o.mode, freq100 := o.freq100, rateIdx := o.rateIdx, wave := o.wave, amp := o.amp,
    offset := o.offset, phaseNum := o.phaseNum, envEn := o.envEn }

/-- The 26 configuration registers of a state. -/
def State.hostConfig (s : State) : HostConfig :=
  { bpm10 := s.transport.bpm10
    measure := s.transport.measure
    osc0 := oscConfig s.osc0
    osc1 := oscConfig s.osc1
    env := (s.env.attackUs, s.env.decayUs, s.env.releaseUs, s.env.sustain)
    sync := (s.sync.mode, s.sync.freq100, s.sync.rateIdx, s.sync.phaseNum) }

end Sys2Proof.Machine
end

