-- ==== Sys2Proof/Certificates/Slice0/Obligations.lean ====
section
/-! DEFINITION. The statements for the provers (OBLIGATIONS.json). A command's result is stated as an equation
whose right side is the old state with the named registers replaced, so each of these equations is at once the
completion of the command, its result and its frame: every register it does not name is unchanged, and there is
no memory. Where a clause rests on a decision of the spec ("[decision: D<n>]") or on a choice of the model (a log
entry), the docstring names it. -/

open Sys2Proof Sys2Proof.Machine

/-! ## The commands: result, frame, completion -/

/-- R120, R121, R123: ENV_ATTACK, ENV_DECAY and ENV_RELEASE (control ids 210, 211, 213) write `value * 1000` to
their own register and nothing else. -/
def Obligations.EnvelopeTimeCommands : Prop :=
  ∀ (v : Value) (s : State),
    lookup 210#8 v = .ok (.envAttack v) ∧ lookup 211#8 v = .ok (.envDecay v) ∧
    lookup 213#8 v = .ok (.envRelease v) ∧
    ∃ us : BitVec 32, us.toNat = v.toNat * 1000 ∧
      exec (.envAttack v) s = .next { s with env := { s.env with attackUs := us } } ∧
      exec (.envDecay v) s = .next { s with env := { s.env with decayUs := us } } ∧
      exec (.envRelease v) s = .next { s with env := { s.env with releaseUs := us } }

/-- 43_cmd_envelope.md, ENV_SUSTAIN (control id 212): the sustain register takes the table's entry at the value
and nothing else changes; the entry is at most 65520, is full scale at 0, a tenth of it at 1000, and 0 from 5118
on. What the table holds at every value is `SustainTableIsTheRoundedPower`. Rests on the spec's decision D10. -/
def Obligations.EnvelopeSustainCommand : Prop :=
  ∀ (v : Value) (s : State),
    lookup 212#8 v = .ok (.envSustain v) ∧
    exec (.envSustain v) s = .next { s with env := { s.env with sustain := sustainMap v } } ∧
    (sustainMap v).toNat ≤ 65520 ∧ (v = 0 → (sustainMap v).toNat = 65520) ∧
    (v = 1000 → (sustainMap v).toNat = 6552) ∧ (5118 ≤ v.toNat → (sustainMap v).toNat = 0)

/-- 43_cmd_envelope.md, ENV_TRIGGER (control id 214): 1 starts an attack from the current level, 0 starts a
release when the gate is open, everything else changes nothing; the timestamp is the iteration's, which `T_LAST`
holds (the model's reading, log entry 6). Rests on the spec's decisions D16, D18 and D28. -/
def Obligations.EnvelopeTriggerCommand : Prop :=
  ∀ (v : Value) (s : State),
    lookup 214#8 v = .ok (.envTrigger v) ∧
    exec (.envTrigger v) s = .next { s with
      env :=
        if v = 1 then { s.env with state := .attack, tStage := s.tLast, lStage := s.env.out }
        else if v = 0 ∧ (s.env.state = .attack ∨ s.env.state = .decay ∨ s.env.state = .sustain) then
          { s.env with state := .release, tStage := s.tLast, lStage := s.env.out }
        else s.env }

/-- 44_cmd_sync.md, SYNC_MODE (control id 220): 0 selects the free mode, every other value the tempo-locked mode.
Rests on the spec's decision D6. -/
def Obligations.SyncModeCommand : Prop :=
  ∀ (v : Value) (s : State),
    lookup 220#8 v = .ok (.syncMode v) ∧
    exec (.syncMode v) s =
      .next { s with sync := { s.sync with mode := if v = 0 then .free else .tempo } }

/-- R131, R132, R133: SYNC_FREQ, SYNC_RATE and SYNC_PHASE (control ids 221, 222, 226) write the value, the value
unchecked, and `360 - value` as a signed number. -/
def Obligations.SyncFreqRatePhaseCommands : Prop :=
  ∀ (v : Value) (s : State),
    lookup 221#8 v = .ok (.syncFreq v) ∧ lookup 222#8 v = .ok (.syncRate v) ∧
    lookup 226#8 v = .ok (.syncPhase v) ∧
    exec (.syncFreq v) s = .next { s with sync := { s.sync with freq100 := v } } ∧
    exec (.syncRate v) s = .next { s with sync := { s.sync with rateIdx := v } } ∧
    ∃ n : PhaseNum, n.toInt = 360 - (v.toNat : Int) ∧
      exec (.syncPhase v) s = .next { s with sync := { s.sync with phaseNum := n } }

/-- 42_cmd_oscillator.md, OSCc_MODE and OSCc_ENV (control ids 230, 237, 240, 247): 0 is free or disabled, every
other value tempo or enabled. Rests on the spec's decisions D6 and D7. -/
def Obligations.OscModeAndEnableCommands : Prop :=
  ∀ (v : Value) (s : State),
    lookup 230#8 v = .ok (.osc0Mode v) ∧ lookup 240#8 v = .ok (.osc1Mode v) ∧
    lookup 237#8 v = .ok (.osc0Env v) ∧ lookup 247#8 v = .ok (.osc1Env v) ∧
    exec (.osc0Mode v) s = .next { s with osc0 := { s.osc0 with mode := if v = 0 then .free else .tempo } } ∧
    exec (.osc1Mode v) s = .next { s with osc1 := { s.osc1 with mode := if v = 0 then .free else .tempo } } ∧
    exec (.osc0Env v) s = .next { s with osc0 := { s.osc0 with envEn := decide (v ≠ 0) } } ∧
    exec (.osc1Env v) s = .next { s with osc1 := { s.osc1 with envEn := decide (v ≠ 0) } }

/-- 42_cmd_oscillator.md, OSCc_FREQ and OSCc_OFFSET (control ids 231, 235, 241, 245): the raw value is stored,
and the accumulator is not touched. Rests on the spec's decisions D8 and D11. -/
def Obligations.OscFreqAndOffsetCommands : Prop :=
  ∀ (v : Value) (s : State),
    lookup 231#8 v = .ok (.osc0Freq v) ∧ lookup 241#8 v = .ok (.osc1Freq v) ∧
    lookup 235#8 v = .ok (.osc0Offset v) ∧ lookup 245#8 v = .ok (.osc1Offset v) ∧
    exec (.osc0Freq v) s = .next { s with osc0 := { s.osc0 with freq100 := v } } ∧
    exec (.osc1Freq v) s = .next { s with osc1 := { s.osc1 with freq100 := v } } ∧
    exec (.osc0Offset v) s = .next { s with osc0 := { s.osc0 with offset := v } } ∧
    exec (.osc1Offset v) s = .next { s with osc1 := { s.osc1 with offset := v } }

/-- R102, R103, R104, R112, R113, R114: OSCc_RATE, OSCc_WAVE and OSCc_AMP store the raw value, unchecked and
unclamped, in the register of their own channel. -/
def Obligations.OscRateWaveAmpCommands : Prop :=
  ∀ (v : Value) (s : State),
    lookup 232#8 v = .ok (.osc0Rate v) ∧ lookup 242#8 v = .ok (.osc1Rate v) ∧
    lookup 233#8 v = .ok (.osc0Wave v) ∧ lookup 243#8 v = .ok (.osc1Wave v) ∧
    lookup 234#8 v = .ok (.osc0Amp v) ∧ lookup 244#8 v = .ok (.osc1Amp v) ∧
    exec (.osc0Rate v) s = .next { s with osc0 := { s.osc0 with rateIdx := v } } ∧
    exec (.osc1Rate v) s = .next { s with osc1 := { s.osc1 with rateIdx := v } } ∧
    exec (.osc0Wave v) s = .next { s with osc0 := { s.osc0 with wave := v } } ∧
    exec (.osc1Wave v) s = .next { s with osc1 := { s.osc1 with wave := v } } ∧
    exec (.osc0Amp v) s = .next { s with osc0 := { s.osc0 with amp := v } } ∧
    exec (.osc1Amp v) s = .next { s with osc1 := { s.osc1 with amp := v } }

/-- R106, R116: OSCc_PHASE (control ids 236, 246) writes the signed number `360 - value`, from 360 for 0 to
-65175 for 65535, never wrapped. -/
def Obligations.OscPhaseCommands : Prop :=
  ∀ (v : Value) (s : State),
    lookup 236#8 v = .ok (.osc0Phase v) ∧ lookup 246#8 v = .ok (.osc1Phase v) ∧
    ∃ n : PhaseNum, n.toInt = 360 - (v.toNat : Int) ∧
      exec (.osc0Phase v) s = .next { s with osc0 := { s.osc0 with phaseNum := n } } ∧
      exec (.osc1Phase v) s = .next { s with osc1 := { s.osc1 with phaseNum := n } }

/-- R90: SONG_BPM (control id 250) writes the tempo, any value, 0 included, and nothing else. -/
def Obligations.SongBpmCommand : Prop :=
  ∀ (v : Value) (s : State),
    lookup 250#8 v = .ok (.songBpm v) ∧
    exec (.songBpm v) s = .next { s with transport := { s.transport with bpm10 := v } }

/-- 41_cmd_transport.md, SONG_MEASURE (control id 251): `MEASURE` takes the value; 0 puts the measure LED off and
touches nothing else; a nonzero value sets the epoch of each tempo-mode generator whose own gate passes to the
iteration's timestamp (`T_LAST`, log entry 6) and toggles the LED. Rests on the spec's decisions D12, D22, D28
and D33. -/
def Obligations.SongMeasureCommand : Prop :=
  ∀ (v : Value) (s : State),
    lookup 251#8 v = .ok (.songMeasure v) ∧
    (v = 0 → exec (.songMeasure v) s =
      .next { s with transport := { s.transport with measure := 0, ledMeasure := false } }) ∧
    (v ≠ 0 → exec (.songMeasure v) s = .next { s with
      transport := { s.transport with measure := v, ledMeasure := !s.transport.ledMeasure }
      osc0 := { s.osc0 with
        tEpoch := if s.osc0.mode = .tempo ∧ (1000000 * (v.toNat - 1) / rateE5 s.osc0.rateIdx) % 10 = 0
          then s.tLast else s.osc0.tEpoch }
      osc1 := { s.osc1 with
        tEpoch := if s.osc1.mode = .tempo ∧ (1000000 * (v.toNat - 1) / rateE5 s.osc1.rateIdx) % 10 = 0
          then s.tLast else s.osc1.tEpoch }
      sync := { s.sync with
        epoch := if s.sync.mode = .tempo ∧ (1000000 * (v.toNat - 1) / rateE5 s.sync.rateIdx) % 10 = 0
          then s.tLast else s.sync.epoch } })

/-- R56: no command writes the receive queue, the decoder state or the frame registers; the decoder changes only
by a byte. -/
def Obligations.CommandsNeverTouchTheByteStream : Prop :=
  (∀ (i : Instr) (s s' : State), exec i s = .next s' → s'.rxq = s.rxq ∧ s'.dec = s.dec) ∧
  (∀ (t : Timestamp) (s s' : State), s.rxq = [] → iterate t s = .next s' → s'.dec = s.dec)

/-- 10_state.md section 4 (none of the run-time registers "can be written directly by a command", but for the
epochs, the measure LED and the envelope's stage registers that 251 and 214 write): a command leaves every
accumulator, effective amplitude, DAC and LED level, the envelope and sync outputs, the watchdog, `T_LAST` and
the model's inputs as they were. -/
def Obligations.CommandsNeverWriteGeneratorOutputs : Prop :=
  ∀ (i : Instr) (s s' : State), exec i s = .next s' →
    s'.osc0.acc = s.osc0.acc ∧ s'.osc0.ampEff = s.osc0.ampEff ∧ s'.osc0.dac = s.osc0.dac ∧
    s'.osc0.ledOsc = s.osc0.ledOsc ∧ s'.osc1.acc = s.osc1.acc ∧ s'.osc1.ampEff = s.osc1.ampEff ∧
    s'.osc1.dac = s.osc1.dac ∧ s'.osc1.ledOsc = s.osc1.ledOsc ∧ s'.env.out = s.env.out ∧
    s'.sync.out = s.sync.out ∧ s'.sync.led = s.sync.led ∧ s'.wd = s.wd ∧ s'.tLast = s.tLast ∧
    s'.inputs = s.inputs ∧ s'.inputCount = s.inputCount

/-- 45_lfo_phase.md section 2 and 10_state.md section 4: an epoch changes only by SONG_MEASURE with a nonzero
value, on a generator in tempo mode whose gate passes, and then to the iteration's timestamp. First over every
tick of the machine, so that no sub-step of the generators moves an epoch either; then over every command by
itself, where the timestamp stands in `T_LAST` (the model's reading, log entry 6). The inputs are the model's
(log entry 1). Rests on the spec's decisions D12, D28 and D33. -/
def Obligations.OnlySongMeasureMovesEpochs : Prop :=
  (∀ (s s' : State) (t : Timestamp) (rx : List Byte), s.nextInput = .tick t rx → step s = .next s' →
    (s'.osc0.tEpoch ≠ s.osc0.tEpoch → s.osc0.mode = .tempo ∧ s'.osc0.tEpoch = t ∧
      ∃ v, v ≠ 0 ∧ s.frameCompletes rx 251 v ∧ (1000000 * (v.toNat - 1) / rateE5 s.osc0.rateIdx) % 10 = 0) ∧
    (s'.osc1.tEpoch ≠ s.osc1.tEpoch → s.osc1.mode = .tempo ∧ s'.osc1.tEpoch = t ∧
      ∃ v, v ≠ 0 ∧ s.frameCompletes rx 251 v ∧ (1000000 * (v.toNat - 1) / rateE5 s.osc1.rateIdx) % 10 = 0) ∧
    (s'.sync.epoch ≠ s.sync.epoch → s.sync.mode = .tempo ∧ s'.sync.epoch = t ∧
      ∃ v, v ≠ 0 ∧ s.frameCompletes rx 251 v ∧ (1000000 * (v.toNat - 1) / rateE5 s.sync.rateIdx) % 10 = 0)) ∧
  ∀ (i : Instr) (s s' : State), exec i s = .next s' →
    (s'.osc0.tEpoch ≠ s.osc0.tEpoch →
      (∃ v, v ≠ 0 ∧ i = .songMeasure v) ∧ s.osc0.mode = .tempo ∧ s'.osc0.tEpoch = s.tLast) ∧
    (s'.osc1.tEpoch ≠ s.osc1.tEpoch →
      (∃ v, v ≠ 0 ∧ i = .songMeasure v) ∧ s.osc1.mode = .tempo ∧ s'.osc1.tEpoch = s.tLast) ∧
    (s'.sync.epoch ≠ s.sync.epoch →
      (∃ v, v ≠ 0 ∧ i = .songMeasure v) ∧ s.sync.mode = .tempo ∧ s'.sync.epoch = s.tLast)

/-! ## Encoding -/

/-- 30_encoding.md sections 1, 2 and 4: decoding an encoded command gives it back with the rest of the stream,
and only the encoding of a command decodes to it. -/
def Obligations.DecodeAndEncodeAgree : Prop :=
  (∀ (i : Instr) (rest : List Byte), i.wellFormed = true → decode (encode i ++ rest) = .ok (i, rest)) ∧
  (∀ (bytes : List Byte) (i : Instr) (rest : List Byte),
    decode bytes = .ok (i, rest) → bytes = encode i ++ rest)

/-- 30_encoding.md section 4: the frames that are commands are exactly the well-formed ones, four bytes that start
with 255 and carry one of the 27 assigned ids. That the decoder rejects every other id by name is the model's choice
(log entry 10): the spec calls a frame with such an id a no-operation, and `UnassignedFrameDoesNothingElse` says that
the machine carries it out as one. -/
def Obligations.CommandsAreTheAssignedFrames : Prop :=
  (∀ bytes : List Byte, frameWellFormed bytes = true ↔ ∃ i, decode bytes = .ok (i, [])) ∧
  (∀ (id : Byte) (v : Value), assignedId id = false → lookup id v = .error (.unassigned id))

/-- 30_encoding.md section 1, the frame word `W` (the spec's decision D29): a word decodes to a command exactly
when it is the sync byte, the command's id and its value, from the high bits down. -/
def Obligations.FrameWordsDecode : Prop :=
  ∀ (w : Nat) (i : Instr), w < 2 ^ 32 →
    (decodeTableWord 32 w = some i ↔ w = 0xFF000000 + i.controlId.toNat * 65536 + i.value.toNat)

/-- 95_test_vectors.md V2 and 30_encoding.md section 7: one word of each family, written out from the spec. The last
two words carry unassigned ids, which the spec calls no-operations (`NOP_ID`); that the model's decoder reads no command
from them is the model's choice (log entry 10). -/
def Obligations.SampleWordsDecode : Prop :=
  decodeTableWord 32 0xFFD2000A = some (.envAttack 10) ∧
  decodeTableWord 32 0xFFD403E8 = some (.envSustain 1000) ∧
  decodeTableWord 32 0xFFE2005A = some (.syncPhase 90) ∧
  decodeTableWord 32 0xFFEC00B4 = some (.osc0Phase 180) ∧
  decodeTableWord 32 0xFFF40FA0 = some (.osc1Amp 4000) ∧
  decodeTableWord 32 0xFFFA05E1 = some (.songBpm 1505) ∧
  decodeTableWord 32 0xFFFB0005 = some (.songMeasure 5) ∧
  decodeTableWord 32 0xFFDF0007 = none ∧ decodeTableWord 32 0xFF000000 = none

/-- R62: the operand is `valueHighByte*256 + valueLowByte`. -/
def Obligations.FrameValueIsHighByteFirst : Prop :=
  ∀ hi lo : Byte, (frameValue hi lo).toNat = hi.toNat * 256 + lo.toNat ∧
    (frameValue hi lo).toNat ≤ 65535

/-! ## The protocol decoder -/

/-- R81 to R84: the decoder's four states, with every byte. -/
def Obligations.DecoderTransitions : Prop :=
  ∀ (d : DecRegs) (b : Byte),
    (d.state = .awaitSync → b = 255#8 →
      decByte d b = ({ d with sync := 255#8, state := .awaitControl }, none)) ∧
    (d.state = .awaitSync → b ≠ 255#8 → decByte d b = (d, none)) ∧
    (d.state = .awaitControl → decByte d b = ({ d with ctrl := b, state := .awaitValueHigh }, none)) ∧
    (d.state = .awaitValueHigh → decByte d b = ({ d with vh := b, state := .awaitValueLow }, none)) ∧
    (d.state = .awaitValueLow → ∃ v : Value, v.toNat = d.vh.toNat * 256 + b.toNat ∧
      decByte d b = ({ d with vl := b, state := .awaitSync }, some (d.ctrl, v)))

/-- R64: bytes other than 255 before a frame belong to no command and are dropped; the 255 starts the frame and
the next three bytes, whatever their values, are its control id and value. -/
def Obligations.FramesAreFoundBySyncAndCount : Prop :=
  ∀ (d : DecRegs) (junk rest : List Byte) (b1 b2 b3 : Byte),
    d.state = .awaitSync → (∀ b ∈ junk, b ≠ 255#8) →
    decBytes d (junk ++ 255#8 :: b1 :: b2 :: b3 :: rest) =
      ((decBytes { state := .awaitSync, sync := 255#8, ctrl := b1, vh := b2, vl := b3 } rest).1,
       (b1, frameValue b2 b3) ::
        (decBytes { state := .awaitSync, sync := 255#8, ctrl := b1, vh := b2, vl := b3 } rest).2)

/-- 40_protocol_decoder.md section 3 and 70_reset_and_hazards.md section 4: in an aligned stream every command
comes out once, in order, whatever 255s its values hold, and the decoder is aligned again. -/
def Obligations.AlignedStreamYieldsItsCommands : Prop :=
  ∀ (program : List Instr) (d : DecRegs), d.state = .awaitSync →
    (decBytes d (program.flatMap encode)).1.state = .awaitSync ∧
    (decBytes d (program.flatMap encode)).2.map (fun f => lookup f.1 f.2) = program.map .ok

/-- 70_reset_and_hazards.md section 4 (misaligned stream): three bytes that are not 255 complete any partial frame
with at most one stray command and leave the decoder waiting for a sync byte. -/
def Obligations.ThreeBytesRealign : Prop :=
  ∀ (d : DecRegs) (a b c : Byte), a ≠ 255#8 → b ≠ 255#8 → c ≠ 255#8 →
    (decBytes d [a, b, c]).1.state = .awaitSync ∧ (decBytes d [a, b, c]).2.length ≤ 1

/-! ## The iteration and the step -/

/-- R215: no byte, command, register value or timestamp makes an iteration do anything but complete. -/
def Obligations.EveryStepCompletes : Prop :=
  (∀ s : State, ∃ s', step s = .next s') ∧ (∀ (i : Instr) (s : State), ∃ s', exec i s = .next s')

/-- 49_watchdog_and_iteration.md section 3: with no byte waiting, one iteration is sub-steps 1 to 6, each reading
what the ones before it wrote: the accumulators before the mixer, this iteration's envelope sample in the mixer,
one timestamp throughout. Rests on the spec's decisions D27, D11 and D37. -/
def Obligations.IterationOrder : Prop :=
  ∀ (t : Timestamp) (s : State), s.rxq = [] →
    iterate t s = .next { s with
      tLast := t
      env := envTickRegs t s.env
      osc0 := mixRegs t s.transport.bpm10 (envTickRegs t s.env).out
        (advanceOsc (t - s.tLast) s.osc0)
      osc1 := mixRegs t s.transport.bpm10 (envTickRegs t s.env).out
        (advanceOsc (t - s.tLast) s.osc1)
      sync := syncRegsAt t s.transport.bpm10 s.sync
      wd := { s.wd with conn := s.wd.conn && !timedOut t s.wd.last } }

/-- 40_protocol_decoder.md sections 2 and 3: when the oldest byte completes a frame whose id names the command
`i`, the step is `exec i` of the state after sub-steps 1 to 6, with the byte popped, the watchdog refreshed and
the decoder back in AwaitSync. The inputs are the model's (log entry 1). -/
def Obligations.StepRunsTheDecodedCommand : Prop :=
  ∀ (s : State) (t : Timestamp) (rx q : List Byte) (b : Byte) (i : Instr),
    s.nextInput = .tick t rx → s.rxq ++ rx = b :: q → s.dec.state = .awaitValueLow →
    lookup s.dec.ctrl (frameValue s.dec.vh b) = .ok i →
    step s = exec i ((((generators t (s.dropInput.receive rx)).setRxq q).setWd
      { last := t, conn := true }).setDec { s.dec with vl := b, state := .awaitSync })

/-- The model's placing of a frame word (log entry 2): the very next step runs the command the word encodes, at
the unchanged timestamp, on the same configuration, and the rest of the queue and the inputs are as before. -/
def Obligations.PlacedWordRunsNext : Prop :=
  ∀ (s : State) (w : Nat) (i : Instr), decodeTableWord 32 w = some i →
    ∃ u : State, step (s.withFetchWord 32 w) = exec i u ∧ u.tLast = s.tLast ∧
      u.hostConfig = s.hostConfig ∧ u.rxq = s.rxq ∧ u.inputs = s.inputs ∧
      u.dec.state = .awaitSync ∧ u.dec.ctrl = i.controlId

/-- 30_encoding.md section 5: a frame with an unassigned id does what its bytes do and nothing else: sub-steps 1
to 6, the pop, the decoder, the watchdog. Rests on the spec's decision D32. -/
def Obligations.UnassignedFrameDoesNothingElse : Prop :=
  ∀ (t : Timestamp) (s : State) (b : Byte) (q : List Byte),
    s.rxq = b :: q → s.dec.state = .awaitValueLow → assignedId s.dec.ctrl = false →
    iterate t s = .next ((((generators t s).setRxq q).setWd { last := t, conn := true }).setDec
      { s.dec with vl := b, state := .awaitSync })

/-- 40_protocol_decoder.md section 3 and 70_reset_and_hazards.md section 4: from AwaitSync, four iterations that
each find a byte of a command's frame run that command once, in the fourth, with the fourth timestamp, on the
configuration the host had set; the first three change no configuration register. Rests on the spec's decision D28;
how the bytes and the timestamps reach the machine is the model's choice (log entries 1 and 14). -/
def Obligations.FourBytesRunOneCommand : Prop :=
  ∀ (s : State) (i : Instr) (t0 t1 t2 t3 : Timestamp) (later : List Input),
    s.dec.state = .awaitSync → s.rxq = [] →
    s.inputs = .tick t0 (encode i) :: .tick t1 [] :: .tick t2 [] :: .tick t3 [] :: later →
    (∃ s3, core.run 3 s = .next s3 ∧ s3.hostConfig = s.hostConfig) ∧
    ∃ u : State, core.run 4 s = exec i u ∧ u.tLast = t3 ∧ u.hostConfig = s.hostConfig ∧
      u.rxq = [] ∧ u.inputs = later ∧ u.wd = { last := t3, conn := true } ∧
      u.dec.state = .awaitSync ∧ u.dec.ctrl = i.controlId ∧ frameValue u.dec.vh u.dec.vl = i.value

/-- 10_state.md section 3 and 20_memory.md section 8: what the host sends does not reach the generators' outputs in
the iteration that consumes it: two iterations from states that differ only in the queue give the same samples, phase
and sync LEDs, phases, levels and effective amplitudes. The measure LED and the connection LED are no generator's
output: SONG_MEASURE and the byte rule change them in that same iteration. -/
def Obligations.BytesActFromTheNextIteration : Prop :=
  ∀ (t : Timestamp) (s : State) (q q' : List Byte) (a b : State),
    iterate t { s with rxq := q } = .next a → iterate t { s with rxq := q' } = .next b →
    a.osc0.dac = b.osc0.dac ∧ a.osc1.dac = b.osc1.dac ∧ a.osc0.ledOsc = b.osc0.ledOsc ∧
    a.osc1.ledOsc = b.osc1.ledOsc ∧ a.osc0.ampEff = b.osc0.ampEff ∧ a.osc1.ampEff = b.osc1.ampEff ∧
    a.osc0.acc = b.osc0.acc ∧ a.osc1.acc = b.osc1.acc ∧ a.env.out = b.env.out ∧
    a.sync.out = b.sync.out ∧ a.sync.led = b.sync.led ∧ a.tLast = b.tLast

/-- 10_state.md sections 3 and 4: the 26 configuration registers, the stage level of the envelope, the three epochs
and the measure LED are written by commands alone: in an iteration that dispatches no command, whether a byte arrives
or not, sub-steps 1 to 6 leave each of them as it was. The inputs are the model's (log entry 1). -/
def Obligations.ConfigurationChangesOnlyByCommands : Prop :=
  ∀ (s s' : State) (t : Timestamp) (rx : List Byte),
    s.nextInput = .tick t rx → step s = .next s' →
    ¬ (s'.hostConfig = s.hostConfig ∧ s'.env.lStage = s.env.lStage ∧ s'.osc0.tEpoch = s.osc0.tEpoch ∧
      s'.osc1.tEpoch = s.osc1.tEpoch ∧ s'.sync.epoch = s.sync.epoch ∧
      s'.transport.ledMeasure = s.transport.ledMeasure) →
    ∃ i : Instr, s.frameCompletes rx i.controlId i.value

/-- 10_state.md rule text on `MEASURE` ("no rule of this spec reads it") and `FR_SYNC` ("never read by any
rule"): two states that differ only in these two registers go through an iteration alike. The result differs at
most in the same two registers. -/
def Obligations.MeasureAndSyncByteAreNeverRead : Prop :=
  ∀ (t : Timestamp) (s a b : State) (m : BitVec 16) (f : Byte),
    iterate t s = .next a →
    iterate t { s with transport := { s.transport with measure := m }, dec := { s.dec with sync := f } } =
      .next b →
    { a with transport := { a.transport with measure := 0 }, dec := { a.dec with sync := 0 } } =
      { b with transport := { b.transport with measure := 0 }, dec := { b.dec with sync := 0 } }

/-- 49_watchdog_and_iteration.md section 1 ("It has no other effect on the machine"): two states that differ only
in the watchdog give, after one iteration, states that differ at most in the watchdog. -/
def Obligations.WatchdogAffectsNothingElse : Prop :=
  ∀ (t : Timestamp) (s a b : State) (w : WdRegs),
    iterate t s = .next a → iterate t { s with wd := w } = .next b → { a with wd := w } = { b with wd := w }

/-- 49_watchdog_and_iteration.md section 1: a consumed byte sets the watchdog to this timestamp and on; without a
byte `WD_LAST` stays and the LED stays on only while less than 500000 have passed. Rests on the spec's decisions
D1, D21 and D32. -/
def Obligations.WatchdogOverOneStep : Prop :=
  ∀ (s s' : State) (t : Timestamp) (rx : List Byte), s.nextInput = .tick t rx → step s = .next s' →
    (s.rxq ++ rx ≠ [] → s'.wd = { last := t, conn := true }) ∧
    (s.rxq ++ rx = [] → s'.wd.last = s.wd.last ∧
      (s'.wd.conn = true ↔ s.wd.conn = true ∧ (t - s.wd.last).toNat < 500000))

/-! ## Phases and levels -/

/-- 45_lfo_phase.md section 1: in every iteration, whatever command it runs, both accumulators advance by the
elapsed time times the frequency, modulo 10^8, and `T_LAST` takes the timestamp. Rests on the spec's decisions
D11 and D37. -/
def Obligations.EveryIterationAdvancesTheAccumulators : Prop :=
  ∀ (s s' : State) (t : Timestamp) (rx : List Byte), s.nextInput = .tick t rx → step s = .next s' →
    s'.tLast = t ∧
    s'.osc0.acc.toNat =
      (s.osc0.acc.toNat + ((2 ^ 32 + t.toNat - s.tLast.toNat) % 2 ^ 32) * s.osc0.freq100.toNat) % 100000000 ∧
    s'.osc1.acc.toNat =
      (s.osc1.acc.toNat + ((2 ^ 32 + t.toNat - s.tLast.toNat) % 2 ^ 32) * s.osc1.freq100.toNat) % 100000000

/-- 45_lfo_phase.md section 4: over any run of iterations without bytes whose timestamps never decrease, the
accumulators depend on the total time alone, however the iterations are spaced. Rests on the spec's decisions D11 and
D37; the premise on the timestamps is that of 70_reset_and_hazards.md section 3; the inputs are the model's (log
entry 1). -/
def Obligations.SpacingDoesNotAffectThePhase : Prop :=
  ∀ (ts : List Timestamp) (s s' : State),
    s.rxq = [] → s.inputs = ts.map (fun t => Input.tick t []) →
    List.IsChain (fun a b : Timestamp => a.toNat ≤ b.toNat) (s.tLast :: ts) →
    s.osc0.acc.toNat < 100000000 → s.osc1.acc.toNat < 100000000 →
    core.run ts.length s = .next s' →
    s'.osc0.acc.toNat =
      (s.osc0.acc.toNat + (s'.tLast.toNat - s.tLast.toNat) * s.osc0.freq100.toNat) % 100000000 ∧
    s'.osc1.acc.toNat =
      (s.osc1.acc.toNat + (s'.tLast.toNat - s.tLast.toNat) * s.osc1.freq100.toNat) % 100000000 ∧
    s'.tLast = (s.tLast :: ts).getLast (by simp)

/-- 45_lfo_phase.md section 2: the phase of a channel lies in [0, 1), differs from the base plus the offset by
whole cycles, and offsets that differ by a multiple of 360 give the same phase. Rests on the spec's decisions D11
to D13. -/
def Obligations.OscPhaseIsWrapped : Prop :=
  ∀ (t : Timestamp) (bpm10 : BitVec 16) (o : OscRegs),
    0 ≤ oscPhase t bpm10 o ∧ oscPhase t bpm10 o < 1 ∧
    (o.mode = .free → ∃ k : Int, oscPhase t bpm10 o + k =
      (o.acc.toNat : ℚ) / 10 ^ 8 + (o.phaseNum.toInt : ℚ) / 360) ∧
    (o.mode = .tempo → ∃ k : Int, oscPhase t bpm10 o + k =
      ((t - o.tEpoch).toNat : ℚ) * (rateE5 o.rateIdx : ℚ) * (bpm10.toNat : ℚ) / (6 * 10 ^ 13) +
        (o.phaseNum.toInt : ℚ) / 360) ∧
    (∀ n : PhaseNum, (n.toInt - o.phaseNum.toInt) % 360 = 0 →
      oscPhase t bpm10 { o with phaseNum := n } = oscPhase t bpm10 o)

/-- 47_sync_clock.md, the output level and its duty cycle: the level of a phase is 1 on [1/4, 3/4) of each cycle
when the phase is not negative, and on (1/4, 3/4] when it is. Rests on the spec's decision D3. -/
def Obligations.PhaseLevelIsSquareWave : Prop :=
  ∀ ph : ℚ,
    (0 ≤ ph → (phaseLevel ph = true ↔ 1 / 4 ≤ Int.fract ph ∧ Int.fract ph < 3 / 4)) ∧
    (ph < 0 → (phaseLevel ph = true ↔ 1 / 4 < Int.fract ph ∧ Int.fract ph ≤ 3 / 4))

/-- 47_sync_clock.md, property P4: the integer form of the rounding, for an implementation without rationals.
Rests on the spec's decision D3. -/
def Obligations.RoundingIntegerForm : Prop :=
  ∀ (n : Int) (m : Nat), 0 < m →
    rnd (2 * ((n : ℚ) / (m : ℚ))) = n.sign * ((4 * (n.natAbs : Int) + m) / (2 * m))

/-- 47_sync_clock.md, free mode: after any iteration in free mode `SYNC_OUT` and `LED_SYNC` are the level of
`t * SYNC_FREQ100 / 10^8` over the absolute timestamp, in whole numbers; the phase offset does not enter. Rests on
the spec's decision D3. -/
def Obligations.FreeSyncOutput : Prop :=
  ∀ (t : Timestamp) (s s' : State), s.sync.mode = .free → iterate t s = .next s' →
    s'.sync.led = s'.sync.out ∧
    (s'.sync.out = true ↔
      ((4 * (t.toNat * s.sync.freq100.toNat) + 100000000) / 200000000) % 2 = 1)

/-- 47_sync_clock.md, tempo-locked mode: after any iteration in tempo-locked mode the output is the level of the
time since the epoch times rate and tempo, plus the offset. Rests on the spec's decisions D1 and D3. -/
def Obligations.TempoSyncOutput : Prop :=
  ∀ (t : Timestamp) (s s' : State), s.sync.mode = .tempo → iterate t s = .next s' →
    s'.sync.led = s'.sync.out ∧
    s'.sync.out = phaseLevel
      (((t - s.sync.epoch).toNat : ℚ) * (rateE5 s.sync.rateIdx : ℚ) * (s.transport.bpm10.toNat : ℚ) /
        (6 * 10 ^ 13) + (s.sync.phaseNum.toInt : ℚ) / 360)

/-! ## The envelope -/

/-- 46_adsr.md sections 2 and 4 (the level in every stage, and its range): while the sustain register is in range
every exact level is in 0..4095, so `ENV_OUT` holds it whole, for every curve the spec admits (log entry 4). The level
is that of the stage the update ends in, from the time elapsed since that stage's date: the attack rises from
`ENV_L_STAGE`, the decay falls from 4095 to the sustain level, Sustain holds the floored sustain level, the release
falls from `ENV_L_STAGE`, Idle is silent. Rests on the spec's decisions D10, D16 and D17. -/
def Obligations.EnvelopeLevelInRange : Prop :=
  ∀ (t : Timestamp) (e : EnvRegs), e.sustain.toNat ≤ 65520 →
    0 ≤ (envEval t e).lvl ∧ (envEval t e).lvl ≤ 4095 ∧
    ((envTickRegs t e).out.toNat : Int) = (envEval t e).lvl ∧
    ((envTickRegs t e).state = .attack → ((envTickRegs t e).out.toNat : Int) = e.lStage.toNat +
      ⌊(4095 - (e.lStage.toNat : ℚ)) *
        curveA (((t - (envTickRegs t e).tStage).toNat : ℚ) / (e.attackUs.toNat : ℚ))⌋) ∧
    ((envTickRegs t e).state = .decay → ((envTickRegs t e).out.toNat : Int) =
      ⌊4095 - (4095 - (e.sustain.toNat : ℚ) / 16) *
        curveD (((t - (envTickRegs t e).tStage).toNat : ℚ) / (e.decayUs.toNat : ℚ))⌋) ∧
    ((envTickRegs t e).state = .sustain → (envTickRegs t e).out.toNat = e.sustain.toNat / 16) ∧
    ((envTickRegs t e).state = .release → ((envTickRegs t e).out.toNat : Int) =
      ⌊(e.lStage.toNat : ℚ) *
        (1 - curveR (((t - (envTickRegs t e).tStage).toNat : ℚ) / (e.releaseUs.toNat : ℚ)))⌋) ∧
    ((envTickRegs t e).state = .idle → (envTickRegs t e).out = 0)

/-- 46_adsr.md section 1 (curve shapes) and section 2: inside Attack the level does not fall as time passes;
inside Decay and Release it does not rise. Rests on the spec's decisions D16 and D17 (property K3). -/
def Obligations.EnvelopeStagesAreMonotone : Prop :=
  ∀ (e : EnvRegs) (t t' : Timestamp), e.sustain.toNat ≤ 65520 →
    (t - e.tStage).toNat ≤ (t' - e.tStage).toNat →
    (e.state = .attack → (t' - e.tStage).toNat < e.attackUs.toNat →
      (envEval t e).lvl ≤ (envEval t' e).lvl) ∧
    (e.state = .decay → (t' - e.tStage).toNat < e.decayUs.toNat →
      (envEval t' e).lvl ≤ (envEval t e).lvl) ∧
    (e.state = .release → (t' - e.tStage).toNat < e.releaseUs.toNat →
      (envEval t' e).lvl ≤ (envEval t e).lvl)

/-- 46_adsr.md section 3, and the reason of the spec's decision D18: neither event makes the output jump. An update
at the timestamp of the event yields the level the envelope had, unless the stage has length 0. -/
def Obligations.EventsDoNotJump : Prop :=
  ∀ (t : Timestamp) (e : EnvRegs),
    (0 < e.attackUs.toNat → (envTickRegs t (noteOn t e)).out = e.out ∧
      (envTickRegs t (noteOn t e)).state = .attack) ∧
    (gateOpen e.state = true → 0 < e.releaseUs.toNat → (envTickRegs t (noteOff t e)).out = e.out ∧
      (envTickRegs t (noteOff t e)).state = .release)

/-- 46_adsr.md section 2: with all three times 0 a note-on reaches Sustain in the next update, and a note-off
reaches Idle with level 0. Rests on the spec's decision D16. -/
def Obligations.ZeroLengthStagesPassAtOnce : Prop :=
  ∀ (t t' : Timestamp) (e : EnvRegs), e.attackUs = 0 → e.decayUs = 0 → e.releaseUs = 0 →
    (envTickRegs t' (noteOn t e)).state = .sustain ∧
    (envTickRegs t' (noteOn t e)).out.toNat = e.sustain.toNat / 16 ∧
    (gateOpen e.state = true → (envTickRegs t' (noteOff t e)).state = .idle ∧
      (envTickRegs t' (noteOff t e)).out = 0)

/-- 46_adsr.md sections 2 to 4, the table of all transitions, over every tick of the machine. `on` and `off` say that
the tick's byte completes the frame ENV_TRIGGER 1 or ENV_TRIGGER 0; `e` is the time elapsed since `ENV_T_STAGE`. Each
state is the one after the tick exactly when the table says so: a stage goes on while `e` is below its length and is
left by the update that finds `e` at or past it; the decay is dated from `ENV_T_STAGE + ENV_ATTACK_US` and evaluated
in the update that ends the attack. Then the stage's date and level: an event dates the new stage with the tick's
timestamp and starts it from the output, the end of an attack dates the decay, nothing else writes either. Rests on
the spec's decisions D16 and D18; the inputs are the model's (log entry 1). -/
def Obligations.EnvelopeTransitions : Prop :=
  ∀ (s s' : State) (t : Timestamp) (rx : List Byte) (on off : Prop),
    s.nextInput = .tick t rx → step s = .next s' →
    (on ↔ s.frameCompletes rx 214 1) → (off ↔ s.frameCompletes rx 214 0) →
    (s'.env.state = .attack ↔ on ∨
      (¬ off ∧ s.env.state = .attack ∧ (t - s.env.tStage).toNat < s.env.attackUs.toNat)) ∧
    (s'.env.state = .decay ↔ ¬ on ∧ ¬ off ∧
      ((s.env.state = .attack ∧ s.env.attackUs.toNat ≤ (t - s.env.tStage).toNat ∧
          (t - (s.env.tStage + s.env.attackUs)).toNat < s.env.decayUs.toNat) ∨
        (s.env.state = .decay ∧ (t - s.env.tStage).toNat < s.env.decayUs.toNat))) ∧
    (s'.env.state = .sustain ↔ ¬ on ∧ ¬ off ∧
      ((s.env.state = .attack ∧ s.env.attackUs.toNat ≤ (t - s.env.tStage).toNat ∧
          s.env.decayUs.toNat ≤ (t - (s.env.tStage + s.env.attackUs)).toNat) ∨
        (s.env.state = .decay ∧ s.env.decayUs.toNat ≤ (t - s.env.tStage).toNat) ∨
        s.env.state = .sustain)) ∧
    (s'.env.state = .release ↔ (off ∧ gateOpen s.env.state = true) ∨
      (¬ on ∧ s.env.state = .release ∧ (t - s.env.tStage).toNat < s.env.releaseUs.toNat)) ∧
    (s'.env.state = .idle ↔ ¬ on ∧
      (s.env.state = .idle ∨
        (s.env.state = .release ∧ s.env.releaseUs.toNat ≤ (t - s.env.tStage).toNat))) ∧
    (on ∨ (off ∧ gateOpen s.env.state = true) → s'.env.tStage = t ∧ s'.env.lStage = s'.env.out) ∧
    (¬ (on ∨ (off ∧ gateOpen s.env.state = true)) → s'.env.lStage = s.env.lStage ∧
      (s.env.state = .attack ∧ s.env.attackUs.toNat ≤ (t - s.env.tStage).toNat →
        s'.env.tStage = s.env.tStage + s.env.attackUs) ∧
      (¬ (s.env.state = .attack ∧ s.env.attackUs.toNat ≤ (t - s.env.tStage).toNat) →
        s'.env.tStage = s.env.tStage))

/-! ## The mixer -/

/-- 48_output_mixer.md, envelope disabled: the effective amplitude is pinned to the configured one and the output is
the oscillator's sample at this iteration's phase, for every waveform. That sample is the offset for the waveform 0 and
an offset of at most 4095 (property O1, the spec's decision D14) and free otherwise, the model's choice (log
entry 3). -/
def Obligations.MixerWithoutEnvelope : Prop :=
  ∀ (t : Timestamp) (bpm10 : BitVec 16) (envOut : Level) (o : OscRegs), o.envEn = false →
    (mixRegs t bpm10 envOut o).ampEff = o.amp ∧
    (mixRegs t bpm10 envOut o).dac = oscSample o.wave o.amp o.offset (oscPhase t bpm10 o) ∧
    (o.wave = 0 → o.offset.toNat ≤ 4095 → (mixRegs t bpm10 envOut o).dac.toNat = o.offset.toNat)

/-- 48_output_mixer.md, envelope enabled and DC waveform: the envelope sweeps the output between the oscillator's
sample and full scale, and the effective amplitude keeps its value. The sample is the offset for an offset of at most
4095 (property O1) and above that free in 0..4095, the model's choice (log entry 3); the sweep is the same from there.
Rests on the spec's decisions D14, D19 and D20. -/
def Obligations.MixerDcSweep : Prop :=
  ∀ (t : Timestamp) (bpm10 : BitVec 16) (envOut : Level) (o : OscRegs) (lo : Level),
    o.envEn = true → o.wave = 0 → lo = oscSample 0 o.ampEff o.offset (oscPhase t bpm10 o) →
    (mixRegs t bpm10 envOut o).ampEff = o.ampEff ∧
    (mixRegs t bpm10 envOut o).dac.toNat = lo.toNat + envOut.toNat * (4095 - lo.toNat) / 4095 ∧
    lo.toNat ≤ (mixRegs t bpm10 envOut o).dac.toNat ∧
    (envOut = 0 → (mixRegs t bpm10 envOut o).dac = lo) ∧
    (envOut.toNat = 4095 → (mixRegs t bpm10 envOut o).dac.toNat = 4095) ∧
    (o.offset.toNat ≤ 4095 → lo.toNat = o.offset.toNat)

/-- 48_output_mixer.md, envelope enabled and periodic waveform: the effective amplitude is the configured one
scaled by the envelope, never above it, and the sample is taken with it; the configured amplitude is kept. Rests
on the spec's decision D19. -/
def Obligations.MixerPeriodic : Prop :=
  ∀ (t : Timestamp) (bpm10 : BitVec 16) (envOut : Level) (o : OscRegs),
    o.envEn = true → o.wave ≠ 0 →
    (mixRegs t bpm10 envOut o).ampEff.toNat = envOut.toNat * o.amp.toNat / 4095 ∧
    (mixRegs t bpm10 envOut o).ampEff.toNat ≤ o.amp.toNat ∧
    (mixRegs t bpm10 envOut o).amp = o.amp ∧
    (mixRegs t bpm10 envOut o).dac =
      oscSample o.wave (mixRegs t bpm10 envOut o).ampEff o.offset (oscPhase t bpm10 o) ∧
    (envOut = 0 → (mixRegs t bpm10 envOut o).ampEff = 0) ∧
    (envOut.toNat = 4095 → (mixRegs t bpm10 envOut o).ampEff = o.amp)

/-- 48_output_mixer.md, the phase LED: lit exactly while the channel's phase is in [1/4, 3/4), in all three cases
of the mixer. Rests on the spec's decisions D3 and D35. -/
def Obligations.PhaseLed : Prop :=
  ∀ (t : Timestamp) (bpm10 : BitVec 16) (envOut : Level) (o : OscRegs),
    (mixRegs t bpm10 envOut o).ledOsc = true ↔
      1 / 4 ≤ oscPhase t bpm10 o ∧ oscPhase t bpm10 o < 3 / 4

/-! ## The tables and the measure gate -/

/-- 20_memory.md section 3: the sustain table is the exact logarithmic conversion, rounded to the nearest 1/16, at
every one of its 65536 entries. Rests on the spec's decision D10. -/
def Obligations.SustainTableIsTheRoundedPower : Prop :=
  ∀ v : Value, ((sustainMap v).toNat : Int) =
    ⌊(65520 : ℝ) * (10 : ℝ) ^ (-(v.toNat : ℝ) / 1000) + 1 / 2⌋

/-- 20_memory.md section 3, property S3: the sustain table never rises. Rests on the spec's decision D10. -/
def Obligations.SustainTableFalls : Prop :=
  ∀ v w : Value, v.toNat ≤ w.toNat → (sustainMap w).toNat ≤ (sustainMap v).toNat

/-- 20_memory.md section 2: the rate table holds the source's 24 decimal literals times 10^5, and outside it every
rate is a positive whole number (`RateOOR`, unknown). Rests on the spec's decisions D24 and D25. -/
def Obligations.RateTableHoldsTheLiterals : Prop :=
  (List.range 24).map (fun i => (rateE5 (BitVec.ofNat 16 i) : ℚ) / 100000) =
    [64, 48, 32, 24, 16, 12, 8, 6, 5.333, 4, 3.2, 3, 2.667, 2, 1.333, 1, 0.667, 0.5, 0.333, 0.25, 0.167,
     0.125, 0.0625, 0.03125] ∧
  ∀ i : BitVec 16, 0 < rateE5 i

/-- 41_cmd_transport.md: for an index of the table and a nonzero measure the gate passes exactly when the
fractional part of `(v - 1)/rate` is below 1/10. Rests on the spec's decision D33. -/
def Obligations.MeasureGateMeaning : Prop :=
  ∀ (v : Value) (i : BitVec 16), v ≠ 0 →
    (measureGate v i = true ↔
      Int.fract (((v.toNat : ℚ) - 1) / ((rateE5 i : ℚ) / 100000)) < 1 / 10)

/-- R93: with the rate 4 (index 9) the gate passes exactly at the measures 1, 5, 9, ...; not at 2, 3, 4. -/
def Obligations.MeasureGateAtRateFour : Prop :=
  rateE5 9 = 400000 ∧ ∀ v : Value, v ≠ 0 → (measureGate v 9 = true ↔ v.toNat % 4 = 1)

/-- 93_implementation_defined.md U2: a command with a value in its nominal range never makes a generator read the
unknown `RateOOR`. -/
def Obligations.NominalCommandsStayInTheRateTable : Prop :=
  ∀ (i : Instr) (s s' : State), i.nominal = true → s.ratesInTable → exec i s = .next s' → s'.ratesInTable

/-! ## Reset and the invariant -/

/-- 10_state.md section 7 and 70_reset_and_hazards.md section 1: every register after reset (the spec's decision
D5 but for the tempo), and a step whose input is `rst` puts the core there and empties the queue, from any state.
The model's own inputs are not the core's to reset (log entry 1). -/
def Obligations.ResetValues : Prop :=
  (State.reset.transport = { bpm10 := 1200, measure := 0, ledMeasure := false } ∧
    State.reset.dec = { state := .awaitSync, sync := 0, ctrl := 0, vh := 0, vl := 0 } ∧
    State.reset.osc0 =
      { mode := .free, freq100 := 0, rateIdx := 0, wave := 0, amp := 0, offset := 0,
        phaseNum := 0, envEn := false, acc := 0, tEpoch := 0, ampEff := 0, dac := 0, ledOsc := false } ∧
    State.reset.osc1 = State.reset.osc0 ∧
    State.reset.env =
      { attackUs := 0, decayUs := 0, releaseUs := 0, sustain := 0, state := .idle,
        tStage := 0, lStage := 0, out := 0 } ∧
    State.reset.sync =
      { mode := .free, freq100 := 0, rateIdx := 0, phaseNum := 0, epoch := 0, out := false,
        led := false } ∧
    State.reset.wd = { last := 0, conn := false } ∧ State.reset.tLast = 0 ∧ State.reset.rxq = []) ∧
  ∀ (s : State) (rx : List Byte), s.nextInput = .rst rx →
    step s = .next { State.reset with
      inputs := s.dropInput.inputs, inputCount := s.dropInput.inputCount }

/-- 70_reset_and_hazards.md section 1 (the first iteration): from reset, a tick with any timestamp and no byte
changes nothing but `T_LAST`: every output keeps its reset value. Rests on the spec's decisions D5 and D14. -/
def Obligations.FirstIterationIsSilent : Prop :=
  ∀ t : Timestamp, iterate t State.reset = .next { State.reset with tLast := t }

/-- The invariant holds after reset. -/
def Obligations.ResetIsSound : Prop := State.reset.sound

/-- 10_state.md sections 2 to 4 (the ranges and relations of the registers): every step keeps the invariant
`State.sound`, from every state that has it, whatever bytes and timestamps the environment supplies. Rests on the
spec's decisions on the register formats (D9, D10, D11, D16, D22). -/
def Obligations.EveryStepKeepsSound : Prop :=
  ∀ s s' : State, s.sound → step s = .next s' → s'.sound
end

