-- ==== Sys2Proof/Laws/State.lean ====
section
/-! SUPPORT. One lemma per group of registers per named write of State (Machine/Ops.lean), so that no later proof
unfolds a record update. -/

namespace Sys2Proof.Machine

@[simp] theorem State.now_eq (s : State) : s.now = s.tLast := rfl

@[simp] theorem State.setDec_dec (s : State) (x : DecRegs) : (s.setDec x).dec = x := rfl
@[simp] theorem State.setDec_transport (s : State) (x : DecRegs) : (s.setDec x).transport = s.transport := rfl
@[simp] theorem State.setDec_osc0 (s : State) (x : DecRegs) : (s.setDec x).osc0 = s.osc0 := rfl
@[simp] theorem State.setDec_osc1 (s : State) (x : DecRegs) : (s.setDec x).osc1 = s.osc1 := rfl
@[simp] theorem State.setDec_env (s : State) (x : DecRegs) : (s.setDec x).env = s.env := rfl
@[simp] theorem State.setDec_sync (s : State) (x : DecRegs) : (s.setDec x).sync = s.sync := rfl
@[simp] theorem State.setDec_wd (s : State) (x : DecRegs) : (s.setDec x).wd = s.wd := rfl
@[simp] theorem State.setDec_tLast (s : State) (x : DecRegs) : (s.setDec x).tLast = s.tLast := rfl
@[simp] theorem State.setDec_rxq (s : State) (x : DecRegs) : (s.setDec x).rxq = s.rxq := rfl
@[simp] theorem State.setDec_inputs (s : State) (x : DecRegs) : (s.setDec x).inputs = s.inputs := rfl
@[simp] theorem State.setDec_inputCount (s : State) (x : DecRegs) : (s.setDec x).inputCount = s.inputCount := rfl

@[simp] theorem State.setTransport_dec (s : State) (x : TransportRegs) : (s.setTransport x).dec = s.dec := rfl
@[simp] theorem State.setTransport_transport (s : State) (x : TransportRegs) : (s.setTransport x).transport = x := rfl
@[simp] theorem State.setTransport_osc0 (s : State) (x : TransportRegs) : (s.setTransport x).osc0 = s.osc0 := rfl
@[simp] theorem State.setTransport_osc1 (s : State) (x : TransportRegs) : (s.setTransport x).osc1 = s.osc1 := rfl
@[simp] theorem State.setTransport_env (s : State) (x : TransportRegs) : (s.setTransport x).env = s.env := rfl
@[simp] theorem State.setTransport_sync (s : State) (x : TransportRegs) : (s.setTransport x).sync = s.sync := rfl
@[simp] theorem State.setTransport_wd (s : State) (x : TransportRegs) : (s.setTransport x).wd = s.wd := rfl
@[simp] theorem State.setTransport_tLast (s : State) (x : TransportRegs) : (s.setTransport x).tLast = s.tLast := rfl
@[simp] theorem State.setTransport_rxq (s : State) (x : TransportRegs) : (s.setTransport x).rxq = s.rxq := rfl
@[simp] theorem State.setTransport_inputs (s : State) (x : TransportRegs) : (s.setTransport x).inputs = s.inputs := rfl
@[simp] theorem State.setTransport_inputCount (s : State) (x : TransportRegs) : (s.setTransport x).inputCount = s.inputCount := rfl

@[simp] theorem State.setEnv_dec (s : State) (x : EnvRegs) : (s.setEnv x).dec = s.dec := rfl
@[simp] theorem State.setEnv_transport (s : State) (x : EnvRegs) : (s.setEnv x).transport = s.transport := rfl
@[simp] theorem State.setEnv_osc0 (s : State) (x : EnvRegs) : (s.setEnv x).osc0 = s.osc0 := rfl
@[simp] theorem State.setEnv_osc1 (s : State) (x : EnvRegs) : (s.setEnv x).osc1 = s.osc1 := rfl
@[simp] theorem State.setEnv_env (s : State) (x : EnvRegs) : (s.setEnv x).env = x := rfl
@[simp] theorem State.setEnv_sync (s : State) (x : EnvRegs) : (s.setEnv x).sync = s.sync := rfl
@[simp] theorem State.setEnv_wd (s : State) (x : EnvRegs) : (s.setEnv x).wd = s.wd := rfl
@[simp] theorem State.setEnv_tLast (s : State) (x : EnvRegs) : (s.setEnv x).tLast = s.tLast := rfl
@[simp] theorem State.setEnv_rxq (s : State) (x : EnvRegs) : (s.setEnv x).rxq = s.rxq := rfl
@[simp] theorem State.setEnv_inputs (s : State) (x : EnvRegs) : (s.setEnv x).inputs = s.inputs := rfl
@[simp] theorem State.setEnv_inputCount (s : State) (x : EnvRegs) : (s.setEnv x).inputCount = s.inputCount := rfl

@[simp] theorem State.setSync_dec (s : State) (x : SyncRegs) : (s.setSync x).dec = s.dec := rfl
@[simp] theorem State.setSync_transport (s : State) (x : SyncRegs) : (s.setSync x).transport = s.transport := rfl
@[simp] theorem State.setSync_osc0 (s : State) (x : SyncRegs) : (s.setSync x).osc0 = s.osc0 := rfl
@[simp] theorem State.setSync_osc1 (s : State) (x : SyncRegs) : (s.setSync x).osc1 = s.osc1 := rfl
@[simp] theorem State.setSync_env (s : State) (x : SyncRegs) : (s.setSync x).env = s.env := rfl
@[simp] theorem State.setSync_sync (s : State) (x : SyncRegs) : (s.setSync x).sync = x := rfl
@[simp] theorem State.setSync_wd (s : State) (x : SyncRegs) : (s.setSync x).wd = s.wd := rfl
@[simp] theorem State.setSync_tLast (s : State) (x : SyncRegs) : (s.setSync x).tLast = s.tLast := rfl
@[simp] theorem State.setSync_rxq (s : State) (x : SyncRegs) : (s.setSync x).rxq = s.rxq := rfl
@[simp] theorem State.setSync_inputs (s : State) (x : SyncRegs) : (s.setSync x).inputs = s.inputs := rfl
@[simp] theorem State.setSync_inputCount (s : State) (x : SyncRegs) : (s.setSync x).inputCount = s.inputCount := rfl

@[simp] theorem State.setWd_dec (s : State) (x : WdRegs) : (s.setWd x).dec = s.dec := rfl
@[simp] theorem State.setWd_transport (s : State) (x : WdRegs) : (s.setWd x).transport = s.transport := rfl
@[simp] theorem State.setWd_osc0 (s : State) (x : WdRegs) : (s.setWd x).osc0 = s.osc0 := rfl
@[simp] theorem State.setWd_osc1 (s : State) (x : WdRegs) : (s.setWd x).osc1 = s.osc1 := rfl
@[simp] theorem State.setWd_env (s : State) (x : WdRegs) : (s.setWd x).env = s.env := rfl
@[simp] theorem State.setWd_sync (s : State) (x : WdRegs) : (s.setWd x).sync = s.sync := rfl
@[simp] theorem State.setWd_wd (s : State) (x : WdRegs) : (s.setWd x).wd = x := rfl
@[simp] theorem State.setWd_tLast (s : State) (x : WdRegs) : (s.setWd x).tLast = s.tLast := rfl
@[simp] theorem State.setWd_rxq (s : State) (x : WdRegs) : (s.setWd x).rxq = s.rxq := rfl
@[simp] theorem State.setWd_inputs (s : State) (x : WdRegs) : (s.setWd x).inputs = s.inputs := rfl
@[simp] theorem State.setWd_inputCount (s : State) (x : WdRegs) : (s.setWd x).inputCount = s.inputCount := rfl

@[simp] theorem State.setRxq_dec (s : State) (x : List Byte) : (s.setRxq x).dec = s.dec := rfl
@[simp] theorem State.setRxq_transport (s : State) (x : List Byte) : (s.setRxq x).transport = s.transport := rfl
@[simp] theorem State.setRxq_osc0 (s : State) (x : List Byte) : (s.setRxq x).osc0 = s.osc0 := rfl
@[simp] theorem State.setRxq_osc1 (s : State) (x : List Byte) : (s.setRxq x).osc1 = s.osc1 := rfl
@[simp] theorem State.setRxq_env (s : State) (x : List Byte) : (s.setRxq x).env = s.env := rfl
@[simp] theorem State.setRxq_sync (s : State) (x : List Byte) : (s.setRxq x).sync = s.sync := rfl
@[simp] theorem State.setRxq_wd (s : State) (x : List Byte) : (s.setRxq x).wd = s.wd := rfl
@[simp] theorem State.setRxq_tLast (s : State) (x : List Byte) : (s.setRxq x).tLast = s.tLast := rfl
@[simp] theorem State.setRxq_rxq (s : State) (x : List Byte) : (s.setRxq x).rxq = x := rfl
@[simp] theorem State.setRxq_inputs (s : State) (x : List Byte) : (s.setRxq x).inputs = s.inputs := rfl
@[simp] theorem State.setRxq_inputCount (s : State) (x : List Byte) : (s.setRxq x).inputCount = s.inputCount := rfl

@[simp] theorem State.setOsc_ch0_dec (s : State) (x : OscRegs) : (s.setOsc .ch0 x).dec = s.dec := rfl
@[simp] theorem State.setOsc_ch0_transport (s : State) (x : OscRegs) : (s.setOsc .ch0 x).transport = s.transport := rfl
@[simp] theorem State.setOsc_ch0_osc0 (s : State) (x : OscRegs) : (s.setOsc .ch0 x).osc0 = x := rfl
@[simp] theorem State.setOsc_ch0_osc1 (s : State) (x : OscRegs) : (s.setOsc .ch0 x).osc1 = s.osc1 := rfl
@[simp] theorem State.setOsc_ch0_env (s : State) (x : OscRegs) : (s.setOsc .ch0 x).env = s.env := rfl
@[simp] theorem State.setOsc_ch0_sync (s : State) (x : OscRegs) : (s.setOsc .ch0 x).sync = s.sync := rfl
@[simp] theorem State.setOsc_ch0_wd (s : State) (x : OscRegs) : (s.setOsc .ch0 x).wd = s.wd := rfl
@[simp] theorem State.setOsc_ch0_tLast (s : State) (x : OscRegs) : (s.setOsc .ch0 x).tLast = s.tLast := rfl
@[simp] theorem State.setOsc_ch0_rxq (s : State) (x : OscRegs) : (s.setOsc .ch0 x).rxq = s.rxq := rfl
@[simp] theorem State.setOsc_ch0_inputs (s : State) (x : OscRegs) : (s.setOsc .ch0 x).inputs = s.inputs := rfl
@[simp] theorem State.setOsc_ch0_inputCount (s : State) (x : OscRegs) : (s.setOsc .ch0 x).inputCount = s.inputCount := rfl

@[simp] theorem State.setOsc_ch1_dec (s : State) (x : OscRegs) : (s.setOsc .ch1 x).dec = s.dec := rfl
@[simp] theorem State.setOsc_ch1_transport (s : State) (x : OscRegs) : (s.setOsc .ch1 x).transport = s.transport := rfl
@[simp] theorem State.setOsc_ch1_osc0 (s : State) (x : OscRegs) : (s.setOsc .ch1 x).osc0 = s.osc0 := rfl
@[simp] theorem State.setOsc_ch1_osc1 (s : State) (x : OscRegs) : (s.setOsc .ch1 x).osc1 = x := rfl
@[simp] theorem State.setOsc_ch1_env (s : State) (x : OscRegs) : (s.setOsc .ch1 x).env = s.env := rfl
@[simp] theorem State.setOsc_ch1_sync (s : State) (x : OscRegs) : (s.setOsc .ch1 x).sync = s.sync := rfl
@[simp] theorem State.setOsc_ch1_wd (s : State) (x : OscRegs) : (s.setOsc .ch1 x).wd = s.wd := rfl
@[simp] theorem State.setOsc_ch1_tLast (s : State) (x : OscRegs) : (s.setOsc .ch1 x).tLast = s.tLast := rfl
@[simp] theorem State.setOsc_ch1_rxq (s : State) (x : OscRegs) : (s.setOsc .ch1 x).rxq = s.rxq := rfl
@[simp] theorem State.setOsc_ch1_inputs (s : State) (x : OscRegs) : (s.setOsc .ch1 x).inputs = s.inputs := rfl
@[simp] theorem State.setOsc_ch1_inputCount (s : State) (x : OscRegs) : (s.setOsc .ch1 x).inputCount = s.inputCount := rfl

theorem State.setOsc_dec (s : State) (c : Channel) (x : OscRegs) : (s.setOsc c x).dec = s.dec := rfl
theorem State.setOsc_transport (s : State) (c : Channel) (x : OscRegs) : (s.setOsc c x).transport = s.transport := rfl
theorem State.setOsc_env (s : State) (c : Channel) (x : OscRegs) : (s.setOsc c x).env = s.env := rfl
theorem State.setOsc_sync (s : State) (c : Channel) (x : OscRegs) : (s.setOsc c x).sync = s.sync := rfl
theorem State.setOsc_wd (s : State) (c : Channel) (x : OscRegs) : (s.setOsc c x).wd = s.wd := rfl
theorem State.setOsc_tLast (s : State) (c : Channel) (x : OscRegs) : (s.setOsc c x).tLast = s.tLast := rfl
theorem State.setOsc_rxq (s : State) (c : Channel) (x : OscRegs) : (s.setOsc c x).rxq = s.rxq := rfl
theorem State.setOsc_inputs (s : State) (c : Channel) (x : OscRegs) : (s.setOsc c x).inputs = s.inputs := rfl
theorem State.setOsc_inputCount (s : State) (c : Channel) (x : OscRegs) : (s.setOsc c x).inputCount = s.inputCount := rfl

@[simp] theorem State.resetCore_dec (s : State) : s.resetCore.dec = State.reset.dec := rfl
@[simp] theorem State.resetCore_transport (s : State) : s.resetCore.transport = State.reset.transport := rfl
@[simp] theorem State.resetCore_osc0 (s : State) : s.resetCore.osc0 = State.reset.osc0 := rfl
@[simp] theorem State.resetCore_osc1 (s : State) : s.resetCore.osc1 = State.reset.osc1 := rfl
@[simp] theorem State.resetCore_env (s : State) : s.resetCore.env = State.reset.env := rfl
@[simp] theorem State.resetCore_sync (s : State) : s.resetCore.sync = State.reset.sync := rfl
@[simp] theorem State.resetCore_wd (s : State) : s.resetCore.wd = State.reset.wd := rfl
@[simp] theorem State.resetCore_tLast (s : State) : s.resetCore.tLast = State.reset.tLast := rfl
@[simp] theorem State.resetCore_rxq (s : State) : s.resetCore.rxq = State.reset.rxq := rfl
@[simp] theorem State.resetCore_inputs (s : State) : s.resetCore.inputs = s.inputs := rfl
@[simp] theorem State.resetCore_inputCount (s : State) : s.resetCore.inputCount = s.inputCount := rfl

@[simp] theorem State.dropInput_dec (s : State) : s.dropInput.dec = s.dec := rfl
@[simp] theorem State.dropInput_transport (s : State) : s.dropInput.transport = s.transport := rfl
@[simp] theorem State.dropInput_osc0 (s : State) : s.dropInput.osc0 = s.osc0 := rfl
@[simp] theorem State.dropInput_osc1 (s : State) : s.dropInput.osc1 = s.osc1 := rfl
@[simp] theorem State.dropInput_env (s : State) : s.dropInput.env = s.env := rfl
@[simp] theorem State.dropInput_sync (s : State) : s.dropInput.sync = s.sync := rfl
@[simp] theorem State.dropInput_wd (s : State) : s.dropInput.wd = s.wd := rfl
@[simp] theorem State.dropInput_tLast (s : State) : s.dropInput.tLast = s.tLast := rfl
@[simp] theorem State.dropInput_rxq (s : State) : s.dropInput.rxq = s.rxq := rfl
@[simp] theorem State.dropInput_inputs (s : State) : s.dropInput.inputs = s.inputs.tail := rfl

@[simp] theorem State.receive_dec (s : State) (rx : List Byte) : (s.receive rx).dec = s.dec := rfl
@[simp] theorem State.receive_transport (s : State) (rx : List Byte) : (s.receive rx).transport = s.transport := rfl
@[simp] theorem State.receive_osc0 (s : State) (rx : List Byte) : (s.receive rx).osc0 = s.osc0 := rfl
@[simp] theorem State.receive_osc1 (s : State) (rx : List Byte) : (s.receive rx).osc1 = s.osc1 := rfl
@[simp] theorem State.receive_env (s : State) (rx : List Byte) : (s.receive rx).env = s.env := rfl
@[simp] theorem State.receive_sync (s : State) (rx : List Byte) : (s.receive rx).sync = s.sync := rfl
@[simp] theorem State.receive_wd (s : State) (rx : List Byte) : (s.receive rx).wd = s.wd := rfl
@[simp] theorem State.receive_tLast (s : State) (rx : List Byte) : (s.receive rx).tLast = s.tLast := rfl
@[simp] theorem State.receive_rxq (s : State) (rx : List Byte) : (s.receive rx).rxq = s.rxq ++ rx := rfl
@[simp] theorem State.receive_inputs (s : State) (rx : List Byte) : (s.receive rx).inputs = s.inputs := rfl
@[simp] theorem State.receive_inputCount (s : State) (rx : List Byte) : (s.receive rx).inputCount = s.inputCount := rfl

/-- What the next input is, once: the head of the list, or the free one after its end. -/
theorem State.nextInput_cons {s : State} {i : Input} {r : List Input} (h : s.inputs = i :: r) :
    s.nextInput = i := by simp [State.nextInput, h]

theorem State.nextInput_nil {s : State} (h : s.inputs = []) :
    s.nextInput = Config.environment s.inputCount := by simp [State.nextInput, h]

theorem State.dropInput_inputCount_cons {s : State} {i : Input} {r : List Input} (h : s.inputs = i :: r) :
    s.dropInput.inputCount = s.inputCount := by simp [State.dropInput, h]

theorem State.dropInput_inputCount_nil {s : State} (h : s.inputs = []) :
    s.dropInput.inputCount = s.inputCount + 1 := by simp [State.dropInput, h]

end Sys2Proof.Machine
end

