-- ==== Sys2Proof/Laws/Arith.lean ====
section
/-! SUPPORT. One lemma per arithmetic operation, free value and table: what it can answer. -/

namespace Sys2Proof.Machine

/-! ## Primitives -/

theorem elapsed_toNat (a b : Timestamp) :
    (elapsed a b).toNat = (2 ^ 32 - b.toNat + a.toNat) % 2 ^ 32 := BitVec.toNat_sub a b

@[simp] theorem elapsed_self (a : Timestamp) : elapsed a a = 0 := BitVec.sub_self a

theorem frac_eq_fract (x : ℚ) : frac x = Int.fract x := rfl

theorem frac_nonneg (x : ℚ) : 0 ≤ frac x := Int.fract_nonneg x

theorem frac_lt_one (x : ℚ) : frac x < 1 := Int.fract_lt_one x

theorem odd_iff (n : Int) : odd n = true ↔ n % 2 = 1 := by
  unfold odd
  rw [bne_iff_ne]
  omega

/-- A level register holds an exact level of 0..4095 unchanged. -/
theorem levelBits_toNat {n : Int} (h0 : 0 ≤ n) (h1 : n ≤ 4095) : ((levelBits n).toNat : Int) = n := by
  unfold levelBits
  rw [BitVec.toNat_ofInt]
  omega

theorem phaseNumOf_toInt (v : Value) : (phaseNumOf v).toInt = 360 - (v.toNat : Int) := by
  unfold phaseNumOf
  rw [BitVec.toInt_ofInt, Int.bmod_def]
  have := v.isLt
  omega

theorem microsOf_toNat (v : Value) : (microsOf v).toNat = v.toNat * 1000 := by
  unfold microsOf
  rw [BitVec.toNat_ofNat]
  have := v.isLt
  omega

theorem modeOf_eq_free_iff (v : Value) : modeOf v = .free ↔ v = 0 := by
  unfold modeOf
  split <;> simp_all

theorem accNext_toNat (acc : BitVec 27) (d : BitVec 32) (f : BitVec 16) :
    (accNext acc d f).toNat = (acc.toNat + d.toNat * f.toNat) % 100000000 := by
  unfold accNext accMod
  rw [BitVec.toNat_ofNat]
  omega

theorem timedOut_iff (t last : Timestamp) : timedOut t last = true ↔ 500000 ≤ (t - last).toNat := by
  unfold timedOut
  exact decide_eq_true_iff

theorem measureGate_iff (v : Value) (i : BitVec 16) :
    measureGate v i = true ↔ 1000000 * (v.toNat - 1) / rateE5 i % 10 = 0 := by
  unfold measureGate
  exact beq_iff_eq

/-! ## Tables and free values -/

/-- Every rate is a positive whole number, in the table and outside it (20_memory.md R44). -/
theorem rateE5_pos (i : BitVec 16) : 0 < rateE5 i := by
  unfold rateE5
  split
  · rename_i r h
    have : ∀ r ∈ rateTable, 0 < r := by decide
    exact this r (List.mem_of_getElem? h)
  · omega

theorem pow1000_eq (x : Nat) : pow1000 x = x ^ 1000 := by
  unfold pow1000
  rw [← pow_mul, ← pow_mul]

theorem tenPow_eq (v : Nat) : tenPow v = 10 ^ v := by
  unfold tenPow
  rw [← pow_mul, ← pow_add, Nat.div_add_mod]

/-- The comparison of the sustain table, in its plain form. -/
theorem belowAttenuated_iff (v r : Nat) :
    belowAttenuated v r = true ↔ r ^ 1000 * 10 ^ v ≤ 131040 ^ 1000 := by
  unfold belowAttenuated
  simp only [decide_eq_true_iff, pow1000_eq, tenPow_eq]

theorem belowAttenuated_mono {v r r' : Nat} (h : r' ≤ r) (hr : belowAttenuated v r = true) :
    belowAttenuated v r' = true := by
  rw [belowAttenuated_iff] at hr ⊢
  have hp : r' ^ 1000 ≤ r ^ 1000 := pow_le_pow_left₀ (Nat.zero_le _) h 1000
  exact (Nat.mul_le_mul_right (10 ^ v) hp).trans hr

/-- The bit-by-bit search finds the greatest `r` that is not above, in a range that brackets it. -/
theorem attenuatedFloor_bracket (v bits a : Nat) (h0 : belowAttenuated v a = true)
    (h1 : belowAttenuated v (a + 2 ^ bits) = false) :
    belowAttenuated v (attenuatedFloor v bits a) = true ∧
      belowAttenuated v (attenuatedFloor v bits a + 1) = false := by
  induction bits generalizing a with
  | zero => exact ⟨h0, h1⟩
  | succ b ih =>
    unfold attenuatedFloor
    split
    · rename_i h
      refine ih _ h ?_
      rw [Nat.add_assoc, ← Nat.two_mul, ← Nat.pow_succ']
      exact h1
    · rename_i h
      exact ih _ h0 (by simpa using h)

/-- Property O1 of the sample port (45_lfo_phase.md R146). -/
theorem oscSample_dc {o : BitVec 16} (h : o.toNat ≤ 4095) (a : BitVec 16) (p : ℚ) :
    oscSample 0 a o p = o.setWidth 12 := if_pos ⟨rfl, h⟩

/-- K1 (46_adsr.md R157). -/
theorem curveOf_zero (shape : ℚ →o ℚ) : curveOf shape 0 = 0 := by simp [curveOf]

/-- K2. -/
theorem curveOf_nonneg (shape : ℚ →o ℚ) (x : ℚ) : 0 ≤ curveOf shape x := le_max_left _ _

theorem curveOf_le_one (shape : ℚ →o ℚ) (x : ℚ) : curveOf shape x ≤ 1 :=
  max_le zero_le_one (min_le_left _ _)

/-- K3. -/
theorem curveOf_mono (shape : ℚ →o ℚ) {x y : ℚ} (h : x ≤ y) : curveOf shape x ≤ curveOf shape y :=
  max_le_max le_rfl (min_le_min le_rfl (sub_le_sub_right (shape.monotone h) _))

/-- Every curve with K1 to K3 is one of these: the reference value, the linear curve, among them. -/
theorem curveOf_id {x : ℚ} (h0 : 0 ≤ x) (h1 : x ≤ 1) : curveOf OrderHom.id x = x := by
  simp [curveOf, h0, h1]

/-! ## The sustain table -/

/-- Nothing above 131040, the value at `v = 0`, is below the attenuated level. -/
theorem belowAttenuated_false_of_gt {v r : Nat} (h : 131040 < r) : belowAttenuated v r = false := by
  cases hb : belowAttenuated v r with
  | false => rfl
  | true =>
    rw [belowAttenuated_iff] at hb
    have h1 : 131040 ^ 1000 < r ^ 1000 := pow_lt_pow_left₀ h (Nat.zero_le _) (by decide)
    have h2 : r ^ 1000 ≤ r ^ 1000 * 10 ^ v := Nat.le_mul_of_pos_right _ (Nat.pow_pos (by decide))
    exact absurd (h1.trans_le (h2.trans hb)) (lt_irrefl _)

/-- What the search of the sustain table finds: the greatest whole number that is not above. -/
theorem attenuatedFloor_greatest (v : Nat) :
    belowAttenuated v (attenuatedFloor v 17 0) = true ∧
      belowAttenuated v (attenuatedFloor v 17 0 + 1) = false := by
  apply attenuatedFloor_bracket
  · rw [belowAttenuated_iff]
    simp
  · exact belowAttenuated_false_of_gt (by norm_num)

theorem attenuatedFloor_le (v : Nat) : attenuatedFloor v 17 0 ≤ 131040 := by
  by_contra h
  have h0 := belowAttenuated_false_of_gt (v := v) (r := attenuatedFloor v 17 0) (by omega)
  rw [(attenuatedFloor_greatest v).1] at h0
  cases h0

/-- The table's entry is narrowed without loss. -/
theorem sustainMap_toNat (v : Value) : (sustainMap v).toNat = (attenuatedFloor v.toNat 17 0 + 1) / 2 := by
  have := attenuatedFloor_le v.toNat
  unfold sustainMap
  rw [BitVec.toNat_ofNat]
  omega

/-! ## Ranges of the exact levels, for a completed fraction `y` in 0..1 -/

theorem attackLevel_range (L : Level) {y : ℚ} (h0 : 0 ≤ y) (h1 : y ≤ 1) :
    (L.toNat : Int) ≤ attackLevel L y ∧ attackLevel L y ≤ 4095 := by
  have hL : (L.toNat : ℚ) ≤ 4095 := by
    have := L.isLt
    exact_mod_cast (by omega : L.toNat ≤ 4095)
  have lo : 0 ≤ ⌊(4095 - (L.toNat : ℚ)) * y⌋ := Int.floor_nonneg.2 (mul_nonneg (by linarith) h0)
  have hi : ⌊(4095 - (L.toNat : ℚ)) * y⌋ ≤ 4095 - (L.toNat : Int) := by
    rw [Int.floor_le_iff]
    push_cast
    nlinarith
  unfold attackLevel
  omega

theorem decayLevel_range {S : BitVec 16} (hS : S.toNat ≤ 65520) {y : ℚ} (h0 : 0 ≤ y) (h1 : y ≤ 1) :
    0 ≤ decayLevel S y ∧ decayLevel S y ≤ 4095 := by
  have hL : (S.toNat : ℚ) ≤ 65520 := by exact_mod_cast hS
  have hp : (0 : ℚ) ≤ S.toNat := by positivity
  unfold decayLevel
  rw [Int.floor_le_iff, Int.floor_nonneg]
  push_cast
  constructor <;> nlinarith

theorem releaseLevel_range (L : Level) {y : ℚ} (h0 : 0 ≤ y) (h1 : y ≤ 1) :
    0 ≤ releaseLevel L y ∧ releaseLevel L y ≤ L.toNat := by
  have hp : (0 : ℚ) ≤ L.toNat := by positivity
  unfold releaseLevel
  rw [Int.floor_le_iff, Int.floor_nonneg]
  push_cast
  constructor <;> nlinarith

/-- The remap onto a range that ends at 4095, in whole numbers. -/
theorem remap_toNat (x lo : Nat) (hl : lo ≤ 4095) :
    remap x lo 4095 = (lo + x * (4095 - lo) / 4095 : Nat) := by
  have hm : (x : Int) * (4095 - lo) = ((x * (4095 - lo) : Nat) : Int) := by
    push_cast [Nat.cast_sub hl]
    ring
  unfold remap
  rw [hm, Int.tdiv_eq_ediv_of_nonneg (by positivity)]
  push_cast
  ring

/-- The cycles since an epoch, as one quotient of rationals (45_lfo_phase.md R142). -/
theorem tempoCycles_formula (t e : Timestamp) (i b : BitVec 16) :
    tempoCycles t e i b = ((t - e).toNat : ℚ) * (rateE5 i : ℚ) * (b.toNat : ℚ) / (6 * 10 ^ 13) := by
  unfold tempoCycles elapsed
  push_cast
  norm_num

/-! ## The envelope's update, stage by stage -/

theorem tickAttack_of_lt {t : Timestamp} {e : EnvRegs} (h : (t - e.tStage).toNat < e.attackUs.toNat) :
    tickAttack t e =
      { state := .attack, tStage := e.tStage,
        lvl := attackLevel e.lStage (curveA (stageFraction (elapsed t e.tStage) e.attackUs)) } := if_pos h

theorem tickAttack_of_le {t : Timestamp} {e : EnvRegs} (h : e.attackUs.toNat ≤ (t - e.tStage).toNat) :
    tickAttack t e = tickDecay t (e.tStage + e.attackUs) e := if_neg (Nat.not_lt.2 h)

theorem tickDecay_of_lt {t ts : Timestamp} {e : EnvRegs} (h : (t - ts).toNat < e.decayUs.toNat) :
    tickDecay t ts e =
      { state := .decay, tStage := ts,
        lvl := decayLevel e.sustain (curveD (stageFraction (elapsed t ts) e.decayUs)) } := if_pos h

theorem tickDecay_of_le {t ts : Timestamp} {e : EnvRegs} (h : e.decayUs.toNat ≤ (t - ts).toNat) :
    tickDecay t ts e = tickSustain ts e := if_neg (Nat.not_lt.2 h)

theorem tickRelease_of_lt {t : Timestamp} {e : EnvRegs} (h : (t - e.tStage).toNat < e.releaseUs.toNat) :
    tickRelease t e =
      { state := .release, tStage := e.tStage,
        lvl := releaseLevel e.lStage (curveR (stageFraction (elapsed t e.tStage) e.releaseUs)) } := if_pos h

theorem tickRelease_of_le {t : Timestamp} {e : EnvRegs} (h : e.releaseUs.toNat ≤ (t - e.tStage).toNat) :
    tickRelease t e = { state := .idle, tStage := e.tStage, lvl := 0 } := if_neg (Nat.not_lt.2 h)

/-- An update neither opens nor closes the gate. -/
theorem gateOpen_envEval (t : Timestamp) (e : EnvRegs) : gateOpen (envEval t e).state = gateOpen e.state := by
  unfold envEval
  cases e.state
  · rfl
  · simp only [tickAttack, tickDecay, tickSustain]
    split <;> [skip; split] <;> rfl
  · simp only [tickDecay, tickSustain]
    split <;> rfl
  · rfl
  · simp only [tickRelease]
    split <;> rfl

theorem noteOff_open {e : EnvRegs} (h : gateOpen e.state = true) (t : Timestamp) :
    noteOff t e = { e with lStage := e.out, tStage := t, state := .release } := if_pos h

theorem noteOff_closed {e : EnvRegs} (h : gateOpen e.state = false) (t : Timestamp) : noteOff t e = e :=
  if_neg (by rw [h]; exact Bool.false_ne_true)

end Sys2Proof.Machine
end

