-- ==== Sys2Proof/Laws/Exec.lean ====
section
/-! SUPPORT. What a command, the decoder, the generators and a step can do, each said once. -/

namespace Sys2Proof.Machine

/-- SONG_MEASURE in its two cases, once (41_cmd_transport.md R91). -/
theorem execSongMeasure_zero (s : State) :
    execSongMeasure 0 s = .next (s.setTransport { s.transport with measure := 0, ledMeasure := false }) := rfl

theorem execSongMeasure_nonzero {v : Value} (h : v ≠ 0) (s : State) :
    execSongMeasure v s = .next ((((s.setOsc .ch0 (resyncOsc s.now v s.osc0)).setOsc .ch1
      (resyncOsc s.now v s.osc1)).setSync (resyncSync s.now v s.sync)).setTransport
        { s.transport with measure := v, ledMeasure := !s.transport.ledMeasure }) := if_neg h

/-! ## Decoding -/

/-- The lookup of a command's own id and value gives the command. -/
theorem lookup_controlId (i : Instr) : lookup i.controlId i.value = .ok i := by cases i <;> rfl

/-- What the lookup answers is a command with that id and that value. -/
theorem lookup_eq_ok {id : Byte} {v : Value} {i : Instr} (h : lookup id v = .ok i) :
    i.controlId = id ∧ i.value = v := by
  unfold lookup at h
  split at h
  all_goals first
    | (cases h; rename_i h; exact ⟨BitVec.eq_of_toNat_eq (by rw [h]; rfl), rfl⟩)
    | cases h

/-! ## Commands, frames, bytes, steps -/

/-- Every command answers a next state. -/
theorem exec_next (i : Instr) (s : State) : ∃ s', exec i s = .next s' := by
  cases i with
  | songMeasure v =>
    by_cases h : v = 0
    · exact ⟨_, h ▸ execSongMeasure_zero s⟩
    · exact ⟨_, execSongMeasure_nonzero h s⟩
  | _ => exact ⟨_, rfl⟩

/-- A dispatched frame is a command or nothing (40_protocol_decoder.md R86, 30_encoding.md R66). -/
theorem dispatchFrame_cases (f : Frame) (s : State) :
    (∃ i, lookup f.1 f.2 = .ok i ∧ dispatchFrame f s = exec i s) ∨
      ((∃ e, lookup f.1 f.2 = .error e) ∧ dispatchFrame f s = .next s) := by
  unfold dispatchFrame
  cases h : lookup f.1 f.2 with
  | ok i => exact .inl ⟨i, rfl, rfl⟩
  | error e => exact .inr ⟨⟨e, rfl⟩, rfl⟩

/-- What one byte does to the decoder: it completes a frame, or only the decoder's registers change. -/
theorem decStep_cases (b : Byte) (s : State) :
    (∃ f, (decByte s.dec b).2 = some f ∧
      decStep b s = dispatchFrame f (s.setDec (decByte s.dec b).1)) ∨
      ((decByte s.dec b).2 = none ∧ decStep b s = .next (s.setDec (decByte s.dec b).1)) := by
  unfold decStep
  cases h : (decByte s.dec b).2 with
  | none => exact .inr ⟨rfl, rfl⟩
  | some f => exact .inl ⟨f, rfl, rfl⟩

/-- A frame is emitted exactly by a byte taken in AwaitValueLow (40_protocol_decoder.md R85). -/
theorem decByte_emits_iff (d : DecRegs) (b : Byte) :
    (decByte d b).2.isSome = true ↔ d.state = .awaitValueLow := by
  unfold decByte
  cases d.state <;> simp

theorem bytePoll_nil {t : Timestamp} {s : State} (h : s.rxq = []) : bytePoll t s = .next s := by
  simp [bytePoll, h]

theorem bytePoll_cons {t : Timestamp} {s : State} {b : Byte} {q : List Byte} (h : s.rxq = b :: q) :
    bytePoll t s = decStep b ((s.setRxq q).setWd (wdByte t)) := by simp [bytePoll, h]

/-- The state after a byte is popped and taken by the decoder, before the dispatch: sub-steps 1 to 6, the byte rule
of the watchdog, the decoder's registers. -/
abbrev afterByte (t : Timestamp) (s : State) (q : List Byte) (d : DecRegs) : State :=
  (((generators t s).setRxq q).setWd { last := t, conn := true }).setDec d

theorem iterate_nil {t : Timestamp} {s : State} (h : s.rxq = []) : iterate t s = .next (generators t s) :=
  bytePoll_nil h

theorem iterate_cons {t : Timestamp} {s : State} {b : Byte} {q : List Byte} (h : s.rxq = b :: q) :
    iterate t s = (match (decByte s.dec b).2 with
      | some f => dispatchFrame f (afterByte t s q (decByte s.dec b).1)
      | none => .next (afterByte t s q (decByte s.dec b).1)) :=
  bytePoll_cons (s := generators t s) h

theorem step_tick {s : State} {t : Timestamp} {rx : List Byte} (h : s.nextInput = .tick t rx) :
    step s = iterate t (s.dropInput.receive rx) := by
  unfold step runInput
  rw [h]

theorem step_rst {s : State} {rx : List Byte} (h : s.nextInput = .rst rx) :
    step s = .next s.dropInput.resetCore := by
  unfold step runInput
  rw [h]

/-- One step of a run. -/
theorem core_run_next (k : Nat) {a b : State} (h : step a = .next b) :
    Sys2Proof.core.run (k + 1) a = Sys2Proof.core.run k b := by
  simp only [Host.Core.run]
  rw [show Sys2Proof.core.step a = .next b from h]

/-- A step is a tick that runs an iteration or a reset (49_watchdog_and_iteration.md R201). -/
theorem step_cases (s : State) :
    (∃ t rx, s.nextInput = .tick t rx ∧ step s = iterate t (s.dropInput.receive rx)) ∨
      (∃ rx, s.nextInput = .rst rx ∧ step s = .next s.dropInput.resetCore) := by
  unfold step runInput
  cases h : s.nextInput with
  | tick t rx => exact .inl ⟨t, rx, rfl, rfl⟩
  | rst rx => exact .inr ⟨rx, rfl, rfl⟩

/-! ## What sub-steps 1 to 6 leave in each group of registers -/

@[simp] theorem generators_dec (t : Timestamp) (s : State) : (generators t s).dec = s.dec := rfl
@[simp] theorem generators_transport (t : Timestamp) (s : State) :
    (generators t s).transport = s.transport := rfl
@[simp] theorem generators_tLast (t : Timestamp) (s : State) : (generators t s).tLast = t := rfl
@[simp] theorem generators_rxq (t : Timestamp) (s : State) : (generators t s).rxq = s.rxq := rfl
@[simp] theorem generators_inputs (t : Timestamp) (s : State) : (generators t s).inputs = s.inputs := rfl
@[simp] theorem generators_inputCount (t : Timestamp) (s : State) :
    (generators t s).inputCount = s.inputCount := rfl
theorem generators_env (t : Timestamp) (s : State) : (generators t s).env = envTickRegs t s.env := rfl
theorem generators_sync (t : Timestamp) (s : State) :
    (generators t s).sync = syncRegsAt t s.transport.bpm10 s.sync := rfl
theorem generators_wd (t : Timestamp) (s : State) :
    (generators t s).wd = wdCheck t s.wd := rfl
theorem generators_osc0 (t : Timestamp) (s : State) :
    (generators t s).osc0 = mixRegs t s.transport.bpm10 (envTickRegs t s.env).out
      (advanceOsc (elapsed t s.tLast) s.osc0) := rfl
theorem generators_osc1 (t : Timestamp) (s : State) :
    (generators t s).osc1 = mixRegs t s.transport.bpm10 (envTickRegs t s.env).out
      (advanceOsc (elapsed t s.tLast) s.osc1) := rfl

/-- What an iteration can do, once: sub-steps 1 to 6 alone when no byte waits; otherwise also the byte, which
completes no frame, or a frame whose id names no command, or a frame whose command runs. -/
theorem iterate_cases {t : Timestamp} {s s' : State} (h : iterate t s = .next s') :
    (s.rxq = [] ∧ s' = generators t s) ∨
    ∃ b q, s.rxq = b :: q ∧
      ((s.dec.state ≠ .awaitValueLow ∧ s' = afterByte t s q (decByte s.dec b).1) ∨
       (s.dec.state = .awaitValueLow ∧
         (((∃ e, lookup s.dec.ctrl (frameValue s.dec.vh b) = .error e) ∧
             s' = afterByte t s q (decByte s.dec b).1) ∨
          ∃ i, lookup s.dec.ctrl (frameValue s.dec.vh b) = .ok i ∧
             exec i (afterByte t s q (decByte s.dec b).1) = .next s'))) := by
  cases hq : s.rxq with
  | nil =>
    rw [iterate_nil hq] at h
    exact .inl ⟨rfl, (Host.Outcome.next.inj h).symm⟩
  | cons b q =>
    rw [iterate_cons hq] at h
    refine .inr ⟨b, q, rfl, ?_⟩
    generalize afterByte t s q (decByte s.dec b).1 = u at h ⊢
    by_cases hs : s.dec.state = .awaitValueLow
    · have hf : (decByte s.dec b).2 = some (s.dec.ctrl, frameValue s.dec.vh b) := by simp [decByte, hs]
      rw [hf] at h
      refine .inr ⟨hs, ?_⟩
      rcases dispatchFrame_cases (s.dec.ctrl, frameValue s.dec.vh b) u with ⟨i, hl, e⟩ | ⟨hl, e⟩
      · exact .inr ⟨i, hl, e.symm.trans h⟩
      · exact .inl ⟨hl, (Host.Outcome.next.inj (e.symm.trans h)).symm⟩
    · have hf : (decByte s.dec b).2 = none := by
        cases h2 : (decByte s.dec b).2 with
        | none => rfl
        | some f => exact absurd ((decByte_emits_iff s.dec b).1 (by simp [h2])) hs
      rw [hf] at h
      exact .inl ⟨hs, (Host.Outcome.next.inj h).symm⟩

end Sys2Proof.Machine
end

