-- ==== Sys2Proof/Laws/PerInstr.lean ====
section
/-! SUPPORT. The per-instruction family EncodedFrame: the encoding of a command is a well-formed frame of four
bytes that starts with 255, carries the command's control id and gives its value back, high byte first
(30_encoding.md R60, R62, R65). -/

namespace Sys2Proof.Laws.EncodedFrame

/-- The claim about one command. -/
def Statement (i : Instr) : Prop :=
  (encode i).length = 4 ∧ (encode i).head? = some 255#8 ∧ (encode i)[1]? = some i.controlId ∧
  assignedId i.controlId = true ∧ frameWellFormed (encode i) = true ∧ i.wellFormed = true ∧
  ∀ b0 b1 hi lo, encode i = [b0, b1, hi, lo] → frameValue hi lo = i.value

/-- The two bytes of a value make the value again. -/
theorem frameValue_split (v : Value) :
    frameValue (v.extractLsb' 8 8) (v.extractLsb' 0 8) = v := by
  unfold frameValue
  exact BitVec.extractLsb'_append_extractLsb'_eq_extractLsb' rfl |>.trans BitVec.extractLsb'_eq_self

/-- Any command whose control id is assigned has the family's property. -/
theorem of_assigned {i : Instr} (h : assignedId i.controlId = true) (hw : i.wellFormed = true) :
    Statement i := by
  refine ⟨rfl, rfl, rfl, h, by simp [frameWellFormed, encode, syncByte, h], hw, ?_⟩
  intro b0 b1 hi lo he
  simp only [encode, List.cons.injEq, and_true] at he
  obtain ⟨-, -, rfl, rfl⟩ := he
  exact frameValue_split i.value

theorem envAttack (value : Value) : Statement (.envAttack value) := of_assigned rfl rfl
theorem envDecay (value : Value) : Statement (.envDecay value) := of_assigned rfl rfl
theorem envSustain (value : Value) : Statement (.envSustain value) := of_assigned rfl rfl
theorem envRelease (value : Value) : Statement (.envRelease value) := of_assigned rfl rfl
theorem envTrigger (value : Value) : Statement (.envTrigger value) := of_assigned rfl rfl
theorem syncMode (value : Value) : Statement (.syncMode value) := of_assigned rfl rfl
theorem syncFreq (value : Value) : Statement (.syncFreq value) := of_assigned rfl rfl
theorem syncRate (value : Value) : Statement (.syncRate value) := of_assigned rfl rfl
theorem syncPhase (value : Value) : Statement (.syncPhase value) := of_assigned rfl rfl
theorem osc0Mode (value : Value) : Statement (.osc0Mode value) := of_assigned rfl rfl
theorem osc0Freq (value : Value) : Statement (.osc0Freq value) := of_assigned rfl rfl
theorem osc0Rate (value : Value) : Statement (.osc0Rate value) := of_assigned rfl rfl
theorem osc0Wave (value : Value) : Statement (.osc0Wave value) := of_assigned rfl rfl
theorem osc0Amp (value : Value) : Statement (.osc0Amp value) := of_assigned rfl rfl
theorem osc0Offset (value : Value) : Statement (.osc0Offset value) := of_assigned rfl rfl
theorem osc0Phase (value : Value) : Statement (.osc0Phase value) := of_assigned rfl rfl
theorem osc0Env (value : Value) : Statement (.osc0Env value) := of_assigned rfl rfl
theorem osc1Mode (value : Value) : Statement (.osc1Mode value) := of_assigned rfl rfl
theorem osc1Freq (value : Value) : Statement (.osc1Freq value) := of_assigned rfl rfl
theorem osc1Rate (value : Value) : Statement (.osc1Rate value) := of_assigned rfl rfl
theorem osc1Wave (value : Value) : Statement (.osc1Wave value) := of_assigned rfl rfl
theorem osc1Amp (value : Value) : Statement (.osc1Amp value) := of_assigned rfl rfl
theorem osc1Offset (value : Value) : Statement (.osc1Offset value) := of_assigned rfl rfl
theorem osc1Phase (value : Value) : Statement (.osc1Phase value) := of_assigned rfl rfl
theorem osc1Env (value : Value) : Statement (.osc1Env value) := of_assigned rfl rfl
theorem songBpm (value : Value) : Statement (.songBpm value) := of_assigned rfl rfl
theorem songMeasure (value : Value) : Statement (.songMeasure value) := of_assigned rfl rfl

end Sys2Proof.Laws.EncodedFrame
end

