-- ==== Sys2Proof/Tests/Slice0.lean ====
section
/-! SUPPORT. The model's own tests. Every expected value is the spec's: 95_test_vectors.md (V1 to V14, S1 to S11),
49_watchdog_and_iteration.md R203, 20_memory.md R45, or a hand calculation from the rule named. The second half
shows, for every statement with hypotheses, a concrete state and operands that meet all of them together. -/

namespace Sys2Proof.Tests

open Sys2Proof Sys2Proof.Machine

/-! ## Helpers -/

/-- The state an outcome answers (the reset state for an outcome that is none). -/
def after (o : Host.Outcome State Fault Refusal) : State :=
  match o with
  | .next s => s
  | .fault _ => State.reset
  | .refused _ => State.reset

/-- The reset state, at the timestamp `t`. -/
def atTime (t : Timestamp) : State := { State.reset with tLast := t }

/-- The reset state with the three bytes `255, id, vh` of a frame taken, the byte `b` waiting and a tick at `t` to
come. -/
def lastByte (id vh b : Byte) (t : Timestamp) : State :=
  { State.reset with
    dec := { state := .awaitValueLow, sync := 255, ctrl := id, vh := vh, vl := 0 }
    rxq := [b]
    inputs := [.tick t []] }

/-- The reset state with a tick at `t` and no byte to come. -/
def quiet (t : Timestamp) : State := { State.reset with inputs := [.tick t []] }

/-- An envelope with the times and the sustain level of V9. -/
def envV9 : EnvRegs :=
  { attackUs := 10000, decayUs := 20000, releaseUs := 100000, sustain := 6552, state := .idle, tStage := 0,
    lStage := 0, out := 0 }

/-- A tempo-mode channel at the rate of index `i`. -/
def tempoOsc (i : BitVec 16) : OscRegs := { OscRegs.reset with mode := .tempo, rateIdx := i }

/-- The tempo-locked sync generator of V10: rate 1, epoch 0. -/
def syncV10 (n : PhaseNum) : SyncRegs :=
  { mode := .tempo, freq100 := 0, rateIdx := 15, phaseNum := n, epoch := 0, out := false, led := false }

/-- The free-running sync generator of V10. -/
def syncFree (f : BitVec 16) : SyncRegs :=
  { mode := .free, freq100 := f, rateIdx := 0, phaseNum := 77, epoch := 0, out := false, led := false }

/-- The measure-gate state of V3: channel 0 in tempo mode at rate 4, channel 1 free, sync in tempo-locked mode at
rate 2.667, epochs 100. -/
def measureState : State :=
  { atTime 9000 with
    osc0 := { tempoOsc 9 with tEpoch := 100 }
    osc1 := { OscRegs.reset with tEpoch := 100 }
    sync := { syncV10 0 with rateIdx := 12, epoch := 100 } }

/-- The measure-gate state with channel 1 in tempo mode too and the last byte of SONG_MEASURE waiting. -/
def measureTick (v : Byte) : State :=
  { lastByte 251 0 v 9000 with
    osc0 := measureState.osc0, osc1 := tempoOsc 9, sync := measureState.sync }

/-! ## Well-formedness: an ill-formed frame for each check -/

theorem test_frame_ok : frameWellFormed [0xFF, 0xD2, 0x00, 0x0A] = true := by decide
theorem test_frame_short_refused : frameWellFormed [0xFF, 0xD2, 0x00] = false := by decide
theorem test_frame_long_refused : frameWellFormed [0xFF, 0xD2, 0x00, 0x0A, 0x00] = false := by decide
theorem test_frame_no_sync_refused : frameWellFormed [0xFE, 0xD2, 0x00, 0x0A] = false := by decide
/-- The ids beside the assigned ranges (R66). -/
theorem test_frame_unassigned_refused :
    [0, 209, 215, 219, 223, 225, 227, 229, 238, 239, 248, 249, 252, 255].all
      (fun id => !frameWellFormed [0xFF, BitVec.ofNat 8 id, 0, 0]) = true := by decide
/-- R66: 229 unassigned ids of 256. -/
theorem test_assigned_count : ((List.range 256).filter (fun id => assignedId (BitVec.ofNat 8 id))).length = 27 := by
  decide
theorem test_nominal_rate_refused : (Instr.osc0Rate 24).nominal = false ∧ (Instr.osc0Rate 23).nominal = true := by decide
theorem test_nominal_amp_refused : (Instr.osc1Amp 4096).nominal = false ∧ (Instr.osc1Amp 4095).nominal = true := by decide
theorem test_nominal_angle_refused : (Instr.syncPhase 361).nominal = false ∧ (Instr.syncPhase 360).nominal = true := by decide
theorem test_nominal_sustain_refused :
    (Instr.envSustain 7001).nominal = false ∧ (Instr.envSustain 7000).nominal = true := by decide
theorem test_nominal_flag_refused : (Instr.envTrigger 2).nominal = false ∧ (Instr.envTrigger 1).nominal = true := by decide

/-! ## Decoding: one word per command, V2 -/

theorem test_decode_envelope :
    decodeTableWord 32 0xFFD2000A = some (.envAttack 10) ∧
    decodeTableWord 32 0xFFD30014 = some (.envDecay 20) ∧
    decodeTableWord 32 0xFFD403E8 = some (.envSustain 1000) ∧
    decodeTableWord 32 0xFFD50064 = some (.envRelease 100) ∧
    decodeTableWord 32 0xFFD60001 = some (.envTrigger 1) := by decide
theorem test_decode_sync :
    decodeTableWord 32 0xFFDC0001 = some (.syncMode 1) ∧
    decodeTableWord 32 0xFFDD0064 = some (.syncFreq 100) ∧
    decodeTableWord 32 0xFFDE000F = some (.syncRate 15) ∧
    decodeTableWord 32 0xFFE2005A = some (.syncPhase 90) := by decide
theorem test_decode_osc0 :
    decodeTableWord 32 0xFFE60001 = some (.osc0Mode 1) ∧
    decodeTableWord 32 0xFFE700FA = some (.osc0Freq 250) ∧
    decodeTableWord 32 0xFFE80009 = some (.osc0Rate 9) ∧
    decodeTableWord 32 0xFFE90001 = some (.osc0Wave 1) ∧
    decodeTableWord 32 0xFFEA07D0 = some (.osc0Amp 2000) ∧
    decodeTableWord 32 0xFFEB03E8 = some (.osc0Offset 1000) ∧
    decodeTableWord 32 0xFFEC00B4 = some (.osc0Phase 180) ∧
    decodeTableWord 32 0xFFED0001 = some (.osc0Env 1) := by decide
theorem test_decode_osc1 :
    decodeTableWord 32 0xFFF00001 = some (.osc1Mode 1) ∧
    decodeTableWord 32 0xFFF10064 = some (.osc1Freq 100) ∧
    decodeTableWord 32 0xFFF20009 = some (.osc1Rate 9) ∧
    decodeTableWord 32 0xFFF30001 = some (.osc1Wave 1) ∧
    decodeTableWord 32 0xFFF40FA0 = some (.osc1Amp 4000) ∧
    decodeTableWord 32 0xFFF501F4 = some (.osc1Offset 500) ∧
    decodeTableWord 32 0xFFF60168 = some (.osc1Phase 360) ∧
    decodeTableWord 32 0xFFF70000 = some (.osc1Env 0) := by decide
theorem test_decode_song :
    decodeTableWord 32 0xFFFA04B0 = some (.songBpm 1200) ∧
    decodeTableWord 32 0xFFFB0005 = some (.songMeasure 5) := by decide
/-- `NOP_ID 0, 0` and `NOP_ID 223, 7` are no commands; a word without the sync byte is no frame. -/
theorem test_decode_rejects :
    decodeTableWord 32 0xFF000000 = none ∧ decodeTableWord 32 0xFFDF0007 = none ∧
    decodeTableWord 32 0xFED2000A = none := by decide
/-- S11: `SONG_BPM 1200` is `FF FA 04 B0`. -/
theorem test_encode_song_bpm : encode (.songBpm 1200) = [0xFF, 0xFA, 0x04, 0xB0] := by decide

/-! ## The decoder, V1 -/

/-- S1: four stray bytes are dropped, then `(250, 1200)` is the one frame. -/
theorem test_resync :
    decBytes State.reset.dec [5, 251, 0, 1, 255, 250, 0x04, 0xB0] =
      ({ state := .awaitSync, sync := 255, ctrl := 250, vh := 4, vl := 0xB0 }, [(250, 1200)]) := by decide
/-- V1 row 7: four 255s are one frame with the unassigned id 255. -/
theorem test_all_ones :
    decBytes State.reset.dec [255, 255, 255, 255] =
      ({ state := .awaitSync, sync := 255, ctrl := 255, vh := 255, vl := 255 }, [(255, 65535)]) := by decide
/-- V1 row 9. -/
theorem test_sync_inside_frame :
    (decBytes State.reset.dec [0xFF, 0xFA, 0xFF, 0xFA, 0x04, 0xB0]).2 = [(250, 65530)] := by decide
/-- V1 row 10: a lost byte. -/
theorem test_lost_byte :
    decBytes { state := .awaitValueHigh, sync := 255, ctrl := 210, vh := 0, vl := 0 } [0x0A, 0xFF, 0xD3, 0x00, 0x14] =
      ({ state := .awaitSync, sync := 255, ctrl := 210, vh := 10, vl := 255 }, [(210, 2815)]) := by decide

/-! ## The commands, V3 to V5, V7 -/

theorem test_song_bpm :
    (after (exec (.songBpm 0) State.reset)).transport.bpm10 = 0 ∧
    (after (exec (.songBpm 1505) State.reset)).transport.bpm10 = 1505 := by decide
theorem test_song_measure_zero :
    (after (exec (.songMeasure 0) { measureState with
        transport := { bpm10 := 1200, measure := 7, ledMeasure := true } })).transport =
      { bpm10 := 1200, measure := 0, ledMeasure := false } ∧
    (after (exec (.songMeasure 0) measureState)).sync.epoch = 100 := by decide
/-- V3, the measures 1, 2 and 5 at 9000. -/
theorem test_song_measure :
    (after (exec (.songMeasure 1) measureState)).osc0.tEpoch = 9000 ∧
    (after (exec (.songMeasure 1) measureState)).osc1.tEpoch = 100 ∧
    (after (exec (.songMeasure 1) measureState)).sync.epoch = 9000 ∧
    (after (exec (.songMeasure 1) measureState)).transport = { bpm10 := 1200, measure := 1, ledMeasure := true } ∧
    (after (exec (.songMeasure 2) measureState)).osc0.tEpoch = 100 ∧
    (after (exec (.songMeasure 2) measureState)).sync.epoch = 100 ∧
    (after (exec (.songMeasure 5) measureState)).osc0.tEpoch = 9000 ∧
    (after (exec (.songMeasure 5) measureState)).sync.epoch = 100 := by decide
theorem test_osc0_mode :
    (after (exec (.osc0Mode 65535) State.reset)).osc0.mode = .tempo ∧
    (after (exec (.osc0Mode 0) measureState)).osc0.mode = .free := by decide
theorem test_osc0_freq : (after (exec (.osc0Freq 65535) State.reset)).osc0.freq100 = 65535 := by decide
theorem test_osc0_rate : (after (exec (.osc0Rate 24) State.reset)).osc0.rateIdx = 24 := by decide
theorem test_osc0_wave : (after (exec (.osc0Wave 65535) State.reset)).osc0.wave = 65535 := by decide
theorem test_osc0_amp :
    (after (exec (.osc0Amp 4096) State.reset)).osc0.amp = 4096 ∧
    (after (exec (.osc0Amp 4096) State.reset)).osc0.ampEff = 0 := by decide
theorem test_osc0_offset : (after (exec (.osc0Offset 4096) State.reset)).osc0.offset = 4096 := by decide
theorem test_osc0_phase :
    (after (exec (.osc0Phase 0) State.reset)).osc0.phaseNum.toInt = 360 ∧
    (after (exec (.osc0Phase 361) State.reset)).osc0.phaseNum.toInt = -1 ∧
    (after (exec (.osc0Phase 65535) State.reset)).osc0.phaseNum.toInt = -65175 := by decide
theorem test_osc0_env :
    (after (exec (.osc0Env 2) State.reset)).osc0.envEn = true ∧
    (after (exec (.osc0Env 0) State.reset)).osc0.envEn = false := by decide
theorem test_osc1_mode :
    (after (exec (.osc1Mode 2) State.reset)).osc1.mode = .tempo ∧
    (after (exec (.osc1Mode 2) State.reset)).osc0.mode = .free := by decide
theorem test_osc1_freq : (after (exec (.osc1Freq 100) State.reset)).osc1.freq100 = 100 := by decide
theorem test_osc1_rate : (after (exec (.osc1Rate 23) State.reset)).osc1.rateIdx = 23 := by decide
theorem test_osc1_wave : (after (exec (.osc1Wave 1) State.reset)).osc1.wave = 1 := by decide
theorem test_osc1_amp : (after (exec (.osc1Amp 65535) State.reset)).osc1.amp = 65535 := by decide
theorem test_osc1_offset :
    (after (exec (.osc1Offset 500) State.reset)).osc1.offset = 500 ∧
    (after (exec (.osc1Offset 500) State.reset)).osc0.offset = 0 := by decide
theorem test_osc1_phase :
    (after (exec (.osc1Phase 90) State.reset)).osc1.phaseNum.toInt = 270 ∧
    (after (exec (.osc1Phase 360) State.reset)).osc1.phaseNum.toInt = 0 := by decide
theorem test_osc1_env : (after (exec (.osc1Env 1) State.reset)).osc1.envEn = true := by decide
theorem test_env_attack : (after (exec (.envAttack 65535) State.reset)).env.attackUs = 65535000 := by decide
theorem test_env_decay : (after (exec (.envDecay 1) State.reset)).env.decayUs = 1000 := by decide
theorem test_env_release : (after (exec (.envRelease 100) State.reset)).env.releaseUs = 100000 := by decide
theorem test_env_sustain :
    (after (exec (.envSustain 0) State.reset)).env.sustain = 65520 ∧
    (after (exec (.envSustain 301) State.reset)).env.sustain = 32762 ∧
    (after (exec (.envSustain 7000) State.reset)).env.sustain = 0 := by decide +kernel
/-- V5: a note-on at 40000 in Idle; V9 row 5: a note-off at 5000 in Attack from 2047. -/
theorem test_env_trigger :
    (after (exec (.envTrigger 1) (atTime 40000))).env =
      { State.reset.env with state := .attack, tStage := 40000, lStage := 0 } ∧
    (after (exec (.envTrigger 0) { atTime 5000 with env := { envV9 with state := .attack, out := 2047 } })).env =
      { envV9 with state := .release, tStage := 5000, lStage := 2047, out := 2047 } := by decide
theorem test_env_trigger_nothing :
    after (exec (.envTrigger 0) (atTime 5)) = atTime 5 ∧
    after (exec (.envTrigger 2) (atTime 5)) = atTime 5 := by decide
theorem test_sync_mode :
    (after (exec (.syncMode 300) State.reset)).sync.mode = .tempo ∧
    (after (exec (.syncMode 0) measureState)).sync.mode = .free := by decide
theorem test_sync_freq : (after (exec (.syncFreq 100) State.reset)).sync.freq100 = 100 := by decide
theorem test_sync_rate : (after (exec (.syncRate 15) State.reset)).sync.rateIdx = 15 := by decide
theorem test_sync_phase :
    (after (exec (.syncPhase 0) State.reset)).sync.phaseNum.toInt = 360 ∧
    (after (exec (.syncPhase 450) State.reset)).sync.phaseNum.toInt = -90 := by decide

/-! ## Tables: V6, V14 -/

theorem test_sustain_table :
    [0, 1, 100, 301, 500, 602, 1000, 2000, 3000, 4000, 4817, 5117, 5118].map
        (fun v => (sustainMap (BitVec.ofNat 16 v)).toNat) =
      [65520, 65369, 52044, 32762, 20719, 16382, 6552, 655, 66, 7, 1, 1, 0] := by decide +kernel
/-- V14, the rates 24 (index 3), 5.333 (8), 0.333 (18) and 0.167 (20), measures 1 to 39. -/
theorem test_measure_gate :
    (List.range 39).filter (fun k => measureGate (BitVec.ofNat 16 (k + 1)) 3) = [0, 1, 2, 24, 25, 26] ∧
    (List.range 39).filter (fun k => measureGate (BitVec.ofNat 16 (k + 1)) 8) = [0, 11, 16, 27, 32] ∧
    (List.range 39).filter (fun k => measureGate (BitVec.ofNat 16 (k + 1)) 18) = List.range 34 ∧
    (List.range 39).filter (fun k => measureGate (BitVec.ofNat 16 (k + 1)) 20) = [0] := by decide +kernel

/-! ## Phases and levels: V8, V10 -/

theorem test_elapsed_wraps : elapsed 704 4294967000 = 1000 := by decide
theorem test_accumulator :
    accNext 99000000 10000 200 = 1000000 ∧ accNext 0 4294967295 65535 = 81677825 ∧
    accNext 12345678 999 0 = 12345678 := by decide +kernel
/-- V8 rows 5, 6, 8, 10, 11. -/
theorem test_phase :
    oscPhase 0 1200 { OscRegs.reset with acc := 25000000, phaseNum := 180 } = 3 / 4 ∧
    oscPhase 0 1200 { OscRegs.reset with phaseNum := -1 } = 359 / 360 ∧
    oscPhase 1000000 1200 (tempoOsc 15) = 0 ∧
    oscPhase 1000000 1205 (tempoOsc 8) = 85253 / 120000 ∧
    tempoCycles 15032704 4294000000 23 1200 = 1 := by decide +kernel
/-- V11, the LED column: 0, 1/4, 1/2, 3/4, 249/1000, 749/1000. -/
theorem test_level_of_phase :
    [0, 1 / 4, 1 / 2, 3 / 4, 249 / 1000, 749 / 1000].map phaseLevel = [false, true, true, false, false, true] := by
  decide +kernel
/-- V10, tempo-locked: the tie on the negative side differs from the same phase on the positive side. -/
theorem test_sync_tempo :
    (syncRegsAt 0 1200 (syncV10 360)).out = false ∧ (syncRegsAt 125000 1200 (syncV10 360)).out = true ∧
    (syncRegsAt 375000 1200 (syncV10 360)).out = false ∧ (syncRegsAt 0 1200 (syncV10 270)).out = false ∧
    (syncRegsAt 0 1200 (syncV10 (-90))).out = true ∧ (syncRegsAt 62500 1200 (syncV10 (-90))).out = false := by
  decide +kernel
/-- V10, free-running. -/
theorem test_sync_free :
    (syncRegsAt 249999 1200 (syncFree 100)).out = false ∧ (syncRegsAt 250000 1200 (syncFree 100)).out = true ∧
    (syncRegsAt 749999 1200 (syncFree 100)).led = true ∧ (syncRegsAt 750000 1200 (syncFree 100)).led = false ∧
    (syncRegsAt 4294967295 1200 (syncFree 100)).out = false ∧
    (syncRegsAt 123456 1200 (syncFree 65535)).out = false := by decide +kernel

/-! ## The envelope: V9, P1 -/

/-- The levels of V9 rows 2, 4 and 6 and of P1, from the completed fraction of the stage. -/
theorem test_levels :
    attackLevel 306 (1 / 4) = 1253 ∧ attackLevel 0 (1 / 2) = 2047 ∧ decayLevel 6552 (1 / 20) = 3910 ∧
    sustainLevel 6552 = 409 ∧ releaseLevel 2047 (1 / 2) = 1023 ∧ releaseLevel 409 (1 / 100) = 404 := by
  decide +kernel
/-- V9 rows 7 and 8: all three times 0. -/
theorem test_zero_length :
    envTickRegs 8 (noteOn 7 { State.reset.env with sustain := 6552 }) =
      { State.reset.env with sustain := 6552, state := .sustain, tStage := 7, out := 409 } ∧
    (envTickRegs 9 (noteOff 8 { State.reset.env with sustain := 6552, state := .sustain, out := 409 })).state =
      .idle := by decide +kernel
/-- P1 at 58000 and 200000: the decay and the release are over; V9 row 11: the stage end across the wrap. -/
theorem test_stage_ends :
    (envTickRegs 58000 { envV9 with state := .decay, tStage := 38000 }).out = 409 ∧
    (envTickRegs 200000 { envV9 with state := .release, tStage := 100000, lStage := 409 }).state = .idle ∧
    (envEval 6000 { envV9 with state := .attack, tStage := 4294963296 }).tStage = 6000 := by decide +kernel

/-! ## The mixer: V11 -/

/-- V11 rows 1, 3, 6, 7. -/
theorem test_mixer_dc :
    (mixRegs 0 1200 3000 { OscRegs.reset with amp := 77, offset := 1000 }).dac = 1000 ∧
    (mixRegs 0 1200 3000 { OscRegs.reset with amp := 77, offset := 1000 }).ampEff = 77 ∧
    (mixRegs 0 1200 2048 { OscRegs.reset with envEn := true, offset := 1000 }).dac = 2547 ∧
    (mixRegs 0 1200 1234 { OscRegs.reset with envEn := true, offset := 4095 }).dac = 4095 ∧
    (mixRegs 0 1200 2048 { OscRegs.reset with envEn := true, offset := 4000, ampEff := 9 }).dac = 4047 := by
  decide +kernel
/-- V11 rows 10, 11, 14, 15, 16. -/
theorem test_mixer_amp :
    mixAmpEff 2 { OscRegs.reset with envEn := true, wave := 1, amp := 4000 } = 1 ∧
    mixAmpEff 2048 { OscRegs.reset with envEn := true, wave := 1, amp := 4000 } = 2000 ∧
    mixAmpEff 2048 { OscRegs.reset with envEn := true, wave := 1, amp := 65535 } = 32775 ∧
    mixAmpEff 4095 { OscRegs.reset with envEn := true, wave := 1, amp := 65535 } = 65535 ∧
    mixAmpEff 4094 { OscRegs.reset with envEn := true, wave := 1, amp := 1 } = 0 := by decide +kernel

/-! ## The watchdog, V12, and whole steps -/

/-- V12 rows 1, 3, 4, 6, 7. -/
theorem test_watchdog :
    wdCheck 1000000000 { last := 0, conn := false } = { last := 0, conn := false } ∧
    wdCheck 500999 { last := 1000, conn := true } = { last := 1000, conn := true } ∧
    wdCheck 501000 { last := 1000, conn := true } = { last := 1000, conn := false } ∧
    wdCheck 199999 { last := 4294667296, conn := true } = { last := 4294667296, conn := true } ∧
    wdCheck 200000 { last := 4294667296, conn := true } = { last := 4294667296, conn := false } := by decide
/-- V12 row 5: the check clears, the byte sets. -/
theorem test_watchdog_byte :
    (after (step { State.reset with
        wd := { last := 1000, conn := true }, inputs := [.tick 501000 [0]] })).wd =
      { last := 501000, conn := true } := by decide +kernel
/-- R203: one full iteration. -/
theorem test_iteration :
    after (step { lastByte 250 4 0xB0 100000 with
        osc0 := { OscRegs.reset with freq100 := 250, offset := 1000 } }) =
      { State.reset with
        dec := { state := .awaitSync, sync := 255, ctrl := 250, vh := 4, vl := 0xB0 }
        osc0 := { OscRegs.reset with freq100 := 250, offset := 1000, acc := 25000000, dac := 1000, ledOsc := true }
        wd := { last := 100000, conn := true }
        tLast := 100000 } := by decide +kernel
/-- The placed word runs as the very next step: OSC1_OFFSET 500. -/
theorem test_placed_word :
    (after (step (State.reset.withFetchWord 32 0xFFF501F4))).osc1.offset = 500 := by decide +kernel
/-- An input `rst` puts the core back to reset and loses the bytes (R240, R241). -/
theorem test_rst :
    after (step { measureState with rxq := [1, 2], inputs := [.rst [3], .tick 5 []] }) =
      { State.reset with inputs := [.tick 5 []] } := by decide

/-! ## Witnesses: for every statement with hypotheses, values that meet all of them together -/

theorem witness_EnvelopeSustainCommand : (0 : Value) = 0 ∧ (1000 : Value) = 1000 ∧ 5118 ≤ (5118 : Value).toNat ∧
    (sustainMap 5118).toNat = 0 ∧ (sustainMap 5117).toNat = 1 := by decide +kernel
theorem witness_EnvelopeTriggerCommand : (0 : Value) ≠ 1 ∧ gateOpen EnvState.decay = true ∧
    exec (.envTrigger 0) { atTime 5 with env := { envV9 with state := .decay, out := 7 } } =
      .next { atTime 5 with env := { envV9 with state := .release, tStage := 5, lStage := 7, out := 7 } } :=
  ⟨by decide, rfl, rfl⟩
theorem witness_SongMeasureCommand : (5 : Value) ≠ 0 ∧ measureState.osc0.mode = .tempo ∧
    1000000 * ((5 : Value).toNat - 1) / rateE5 measureState.osc0.rateIdx % 10 = 0 ∧
    1000000 * ((5 : Value).toNat - 1) / rateE5 measureState.sync.rateIdx % 10 ≠ 0 := by decide
theorem witness_CommandsNeverTouchTheByteStream :
    (∃ s', exec (.songMeasure 5) measureState = .next s') ∧
    (quiet 7).rxq = [] ∧ ∃ s', iterate 7 (quiet 7) = .next s' := ⟨⟨_, rfl⟩, rfl, ⟨_, rfl⟩⟩
theorem witness_CommandsNeverWriteGeneratorOutputs : ∃ s', exec (.osc0Amp 4095) measureState = .next s' := ⟨_, rfl⟩
/-- A measure that moves one epoch, channel 0's, over a tick and as a command; and one that moves the other two. -/
theorem witness_OnlySongMeasureMovesEpochs :
    ((measureTick 5).nextInput = .tick 9000 [] ∧ (∃ s', step (measureTick 5) = .next s') ∧
      (after (step (measureTick 5))).osc0.tEpoch ≠ (measureTick 5).osc0.tEpoch ∧
      (after (step (measureTick 1))).osc1.tEpoch ≠ (measureTick 1).osc1.tEpoch ∧
      (after (step (measureTick 1))).sync.epoch ≠ (measureTick 1).sync.epoch) ∧
    (∃ s', exec (.songMeasure 5) measureState = .next s') ∧
    (after (exec (.songMeasure 5) measureState)).osc0.tEpoch ≠ measureState.osc0.tEpoch ∧
    (after (exec (.songMeasure 1) measureState)).sync.epoch ≠ measureState.sync.epoch ∧
    (after (exec (.songMeasure 1) { measureState with osc1 := tempoOsc 9 })).osc1.tEpoch ≠ (tempoOsc 9).tEpoch :=
  ⟨⟨rfl, ⟨_, rfl⟩, by decide +kernel, by decide +kernel, by decide +kernel⟩, ⟨_, rfl⟩, by decide, by decide, by decide⟩
theorem witness_DecodeAndEncodeAgree : (Instr.syncPhase 65535).wellFormed = true ∧
    decode (encode (.syncPhase 65535) ++ [1, 2]) = .ok (.syncPhase 65535, [1, 2]) := ⟨rfl, rfl⟩
theorem witness_CommandsAreTheAssignedFrames : assignedId 209 = false ∧ assignedId 255 = false := by decide
theorem witness_FrameWordsDecode : 0xFFFBFFFF < 2 ^ 32 ∧
    decodeTableWord 32 0xFFFBFFFF = some (.songMeasure 65535) := by decide
theorem witness_DecoderTransitions :
    (State.reset.dec.state = .awaitSync ∧ (255#8 : Byte) = 255#8) ∧
    (State.reset.dec.state = .awaitSync ∧ (254#8 : Byte) ≠ 255#8) ∧
    ({ State.reset.dec with state := .awaitControl } : DecRegs).state = .awaitControl ∧
    ({ State.reset.dec with state := .awaitValueHigh } : DecRegs).state = .awaitValueHigh ∧
    (lastByte 250 4 0xB0 0).dec.state = .awaitValueLow := by decide
theorem witness_FramesAreFoundBySyncAndCount : State.reset.dec.state = .awaitSync ∧
    (∀ b ∈ ([5, 251, 0, 1, 254] : List Byte), b ≠ 255#8) := by decide
theorem witness_AlignedStreamYieldsItsCommands : State.reset.dec.state = .awaitSync := rfl
theorem witness_ThreeBytesRealign : (0#8 : Byte) ≠ 255#8 ∧ (254#8 : Byte) ≠ 255#8 := by decide
theorem witness_IterationOrder : (atTime 5).rxq = [] := rfl
theorem witness_StepRunsTheDecodedCommand :
    (lastByte 214 0 1 9000).nextInput = .tick 9000 [] ∧ (lastByte 214 0 1 9000).rxq ++ [] = [1#8] ∧
    (lastByte 214 0 1 9000).dec.state = .awaitValueLow ∧
    lookup (lastByte 214 0 1 9000).dec.ctrl (frameValue (lastByte 214 0 1 9000).dec.vh 1#8) = .ok (.envTrigger 1) :=
  ⟨rfl, rfl, rfl, rfl⟩
theorem witness_PlacedWordRunsNext : decodeTableWord 32 0xFFD60000 = some (.envTrigger 0) := by decide
theorem witness_UnassignedFrameDoesNothingElse :
    (lastByte 215 0 1 5).rxq = [1] ∧ (lastByte 215 0 1 5).dec.state = .awaitValueLow ∧
    assignedId (lastByte 215 0 1 5).dec.ctrl = false := by decide
/-- The four ticks of one frame, the command a note-on. -/
def fourTicks : State :=
  { State.reset with inputs := [.tick 1 (encode (.envTrigger 1)), .tick 2 [], .tick 3 [], .tick 4 []] }
theorem witness_FourBytesRunOneCommand :
    fourTicks.dec.state = .awaitSync ∧ fourTicks.rxq = [] ∧
    fourTicks.inputs = .tick 1 (encode (.envTrigger 1)) :: .tick 2 [] :: .tick 3 [] :: .tick 4 [] :: [] :=
  ⟨rfl, rfl, rfl⟩
theorem witness_BytesActFromTheNextIteration :
    (∃ a, iterate 5 { atTime 1 with rxq := [] } = .next a) ∧
    ∃ b, iterate 5 { atTime 1 with rxq := [255] } = .next b := ⟨⟨_, rfl⟩, ⟨_, rfl⟩⟩
/-- A tick that changes a configuration register, one that changes only the stage level, one only the LED. -/
theorem witness_ConfigurationChangesOnlyByCommands :
    (lastByte 230 0 1 9).nextInput = .tick 9 [] ∧ (∃ s', step (lastByte 230 0 1 9) = .next s') ∧
    (after (step (lastByte 230 0 1 9))).hostConfig ≠ (lastByte 230 0 1 9).hostConfig ∧
    (after (step { lastByte 214 0 0 9 with env := { envV9 with state := .sustain } })).env.lStage ≠ envV9.lStage ∧
    (after (step (measureTick 5))).transport.ledMeasure ≠ (measureTick 5).transport.ledMeasure :=
  ⟨rfl, ⟨_, rfl⟩, by decide +kernel, by decide +kernel, by decide +kernel⟩
theorem witness_MeasureAndSyncByteAreNeverRead :
    (∃ a, iterate 5 (quiet 5) = .next a) ∧
    ∃ b, iterate 5 { quiet 5 with
      transport := { (quiet 5).transport with measure := 9 }, dec := { (quiet 5).dec with sync := 255 } } = .next b :=
  ⟨⟨_, rfl⟩, ⟨_, rfl⟩⟩
theorem witness_WatchdogAffectsNothingElse :
    (∃ a, iterate 5 (lastByte 230 0 1 5) = .next a) ∧
    ∃ b, iterate 5 { lastByte 230 0 1 5 with wd := { last := 9, conn := true } } = .next b := ⟨⟨_, rfl⟩, ⟨_, rfl⟩⟩
/-- Both clauses: a byte at 9; no byte, 499999 and 500000 after the last one. -/
theorem witness_WatchdogOverOneStep :
    ((lastByte 0 0 0 9).nextInput = .tick 9 [] ∧ (lastByte 0 0 0 9).rxq ++ [] ≠ [] ∧
      ∃ s', step (lastByte 0 0 0 9) = .next s') ∧
    ((quiet 500000).nextInput = .tick 500000 [] ∧ (quiet 500000).rxq ++ [] = [] ∧
      (∃ s', step (quiet 500000) = .next s') ∧
      ((499999 : Timestamp) - (quiet 0).wd.last).toNat < 500000 ∧
      ¬ ((500000 : Timestamp) - (quiet 0).wd.last).toNat < 500000) :=
  ⟨⟨rfl, by decide, ⟨_, rfl⟩⟩, rfl, rfl, ⟨_, rfl⟩, by decide, by decide⟩
theorem witness_EveryIterationAdvancesTheAccumulators :
    (quiet 5).nextInput = .tick 5 [] ∧ ∃ s', step (quiet 5) = .next s' := ⟨rfl, ⟨_, rfl⟩⟩
/-- Two ticks to come, at 10 and at 30, and a running channel. -/
def twoTicks : State :=
  { State.reset with
    osc0 := { OscRegs.reset with freq100 := 250, acc := 99999999 }
    inputs := [.tick 10 [], .tick 30 []] }
theorem witness_SpacingDoesNotAffectThePhase :
    twoTicks.rxq = [] ∧ twoTicks.inputs = ([10, 30] : List Timestamp).map (fun t => Input.tick t []) ∧
    List.IsChain (fun a b : Timestamp => a.toNat ≤ b.toNat) (twoTicks.tLast :: [10, 30]) ∧
    twoTicks.osc0.acc.toNat < 100000000 ∧ twoTicks.osc1.acc.toNat < 100000000 ∧
    ∃ s', core.run ([10, 30] : List Timestamp).length twoTicks = .next s' :=
  ⟨rfl, rfl, by decide, by decide, by decide, ⟨_, rfl⟩⟩
/-- Both modes, and offsets a whole turn apart: 360 and 0. -/
theorem witness_OscPhaseIsWrapped :
    OscRegs.reset.mode = .free ∧ (tempoOsc 9).mode = .tempo ∧
    ((360 : PhaseNum).toInt - OscRegs.reset.phaseNum.toInt) % 360 = 0 := by decide
theorem witness_PhaseLevelIsSquareWave : (0 : ℚ) ≤ 1 / 4 ∧ (-1 / 4 : ℚ) < 0 := by decide +kernel
theorem witness_RoundingIntegerForm : 0 < (360 : Nat) := by decide
theorem witness_FreeSyncOutput :
    (quiet 0).sync.mode = .free ∧ ∃ s', iterate 250000 (quiet 0) = .next s' := ⟨rfl, ⟨_, rfl⟩⟩
theorem witness_TempoSyncOutput :
    measureState.sync.mode = .tempo ∧ ∃ s', iterate 250000 measureState = .next s' := ⟨rfl, ⟨_, rfl⟩⟩
/-- An update that ends in each of the five stages, Attack and Decay in their last microsecond. -/
theorem witness_EnvelopeLevelInRange :
    ({ envV9 with sustain := 65520 } : EnvRegs).sustain.toNat ≤ 65520 ∧
    (envTickRegs 9999 { envV9 with state := .attack }).state = .attack ∧
    (envTickRegs 29999 { envV9 with state := .attack }).state = .decay ∧
    (envTickRegs 30000 { envV9 with state := .attack }).state = .sustain ∧
    (envTickRegs 99999 { envV9 with state := .release }).state = .release ∧
    (envTickRegs 100000 { envV9 with state := .release }).state = .idle := by decide +kernel
/-- One half and the last microsecond of each stage of V9. -/
theorem witness_EnvelopeStagesAreMonotone :
    envV9.sustain.toNat ≤ 65520 ∧
    ((5000 : Timestamp) - envV9.tStage).toNat ≤ ((9999 : Timestamp) - envV9.tStage).toNat ∧
    (({ envV9 with state := .attack } : EnvRegs).state = .attack ∧
      ((9999 : Timestamp) - envV9.tStage).toNat < envV9.attackUs.toNat) ∧
    (({ envV9 with state := .decay } : EnvRegs).state = .decay ∧
      ((19999 : Timestamp) - envV9.tStage).toNat < envV9.decayUs.toNat) ∧
    (({ envV9 with state := .release } : EnvRegs).state = .release ∧
      ((99999 : Timestamp) - envV9.tStage).toNat < envV9.releaseUs.toNat) := by decide
theorem witness_EventsDoNotJump :
    0 < ({ envV9 with attackUs := 1 } : EnvRegs).attackUs.toNat ∧
    gateOpen ({ envV9 with state := .sustain } : EnvRegs).state = true ∧ 0 < envV9.releaseUs.toNat := by decide
theorem witness_ZeroLengthStagesPassAtOnce :
    State.reset.env.attackUs = 0 ∧ State.reset.env.decayUs = 0 ∧ State.reset.env.releaseUs = 0 ∧
    gateOpen ({ State.reset.env with state := .attack } : EnvRegs).state = true := by decide
/-- The hypotheses with an event and without one, then every row of the table at the boundary of its condition:
stages in their last microsecond and at their end, a note-on, a note-off with the gate open and with it closed. -/
theorem witness_EnvelopeTransitions :
    ((lastByte 214 0 1 9).nextInput = .tick 9 [] ∧ (∃ s', step (lastByte 214 0 1 9) = .next s') ∧
      (True ↔ (lastByte 214 0 1 9).frameCompletes [] 214 1) ∧
      (False ↔ (lastByte 214 0 1 9).frameCompletes [] 214 0)) ∧
    ((quiet 9).nextInput = .tick 9 [] ∧ (∃ s', step (quiet 9) = .next s') ∧
      (False ↔ (quiet 9).frameCompletes [] 214 1) ∧ (False ↔ (quiet 9).frameCompletes [] 214 0)) ∧
    (after (step (lastByte 214 0 1 9))).env.state = .attack ∧
    (after (step { lastByte 214 0 0 9 with env := { envV9 with state := .sustain } })).env.state = .release ∧
    (after (step (lastByte 214 0 0 9))).env.state = .idle ∧
    ([9999, 10000, 29999, 30000].map fun t =>
        (after (step { quiet (BitVec.ofNat 32 t) with env := { envV9 with state := .attack } })).env.state) =
      [.attack, .decay, .decay, .sustain] ∧
    ([19999, 20000].map fun t =>
        (after (step { quiet (BitVec.ofNat 32 t) with env := { envV9 with state := .decay } })).env.state) =
      [.decay, .sustain] ∧
    ([99999, 100000].map fun t =>
        (after (step { quiet (BitVec.ofNat 32 t) with env := { envV9 with state := .release } })).env.state) =
      [.release, .idle] := by
  refine ⟨⟨rfl, ⟨_, rfl⟩, ⟨fun _ => ⟨1, [], rfl, rfl, rfl, rfl⟩, fun _ => trivial⟩, ⟨False.elim, ?_⟩⟩,
    ⟨rfl, ⟨_, rfl⟩, ⟨False.elim, ?_⟩, ⟨False.elim, ?_⟩⟩, by decide +kernel, by decide +kernel, by decide +kernel,
    by decide +kernel, by decide +kernel, by decide +kernel⟩
  · rintro ⟨b, q, h, -, -, hv⟩
    cases h
    exact absurd hv (by decide)
  · rintro ⟨b, q, h, -⟩
    cases h
  · rintro ⟨b, q, h, -⟩
    cases h
theorem witness_MixerWithoutEnvelope :
    OscRegs.reset.envEn = false ∧ OscRegs.reset.wave = 0 ∧
    ({ OscRegs.reset with offset := 4095 } : OscRegs).offset.toNat ≤ 4095 := by decide
/-- Both sides of the offset's boundary: 4095, and 4096 with its free sample. -/
theorem witness_MixerDcSweep :
    ({ OscRegs.reset with envEn := true, offset := 4096 } : OscRegs).envEn = true ∧ OscRegs.reset.wave = 0 ∧
    (∃ lo : Level, lo = oscSample 0 0 4096 (oscPhase 0 1200 { OscRegs.reset with envEn := true, offset := 4096 })) ∧
    oscSample 0 0 4095 0 = 4095 ∧ (4095 : BitVec 16).toNat ≤ 4095 ∧ (4095 : Level).toNat = 4095 :=
  ⟨rfl, rfl, ⟨_, rfl⟩, by decide +kernel, by decide, by decide⟩
theorem witness_MixerPeriodic :
    ({ OscRegs.reset with envEn := true, wave := 1 } : OscRegs).envEn = true ∧
    ({ OscRegs.reset with envEn := true, wave := 1 } : OscRegs).wave ≠ 0 ∧ (4095 : Level).toNat = 4095 := by decide
theorem witness_SustainTableFalls : (1000 : Value).toNat ≤ (1001 : Value).toNat := by decide
theorem witness_MeasureGateMeaning : (1 : Value) ≠ 0 ∧ (65535 : Value) ≠ 0 := by decide
theorem witness_MeasureGateAtRateFour : (5 : Value) ≠ 0 ∧ (5 : Value).toNat % 4 = 1 := by decide
theorem witness_NominalCommandsStayInTheRateTable :
    (Instr.osc0Rate 23).nominal = true ∧ State.reset.ratesInTable ∧
    ∃ s', exec (.osc0Rate 23) State.reset = .next s' := ⟨by decide, by decide, ⟨_, rfl⟩⟩
theorem witness_ResetValues : ({ measureState with inputs := [.rst [1]] } : State).nextInput = .rst [1] := rfl
theorem witness_EveryStepKeepsSound :
    (lastByte 250 0 1 9).sound ∧ ∃ s', step (lastByte 250 0 1 9) = .next s' := ⟨by decide, ⟨_, rfl⟩⟩

end Sys2Proof.Tests
end

section
/-! Proofs for 20_memory.md: what a command leaves alone, and the byte stream as the case the rule names. -/

namespace Sys2Proof.Proofs

open Sys2Proof.Machine

/-- The frame of every command: it writes the transport, the two channels, the envelope and the sync generator at
most, so the decoder, the watchdog, `T_LAST`, the receive queue and the inputs stay. -/
theorem exec_writes_generator_groups_only {i : Instr} {s s' : State} (h : exec i s = .next s') :
    s' = { s with transport := s'.transport, osc0 := s'.osc0, osc1 := s'.osc1, env := s'.env,
                  sync := s'.sync } := by
  cases i with
  | songMeasure v =>
    by_cases hv : v = 0
    · subst hv
      cases (execSongMeasure_zero s).symm.trans h
      rfl
    · cases (execSongMeasure_nonzero hv s).symm.trans h
      rfl
  | _ =>
    cases Host.Outcome.next.inj h
    rfl

theorem exec_rxq {i : Instr} {s s' : State} (h : exec i s = .next s') : s'.rxq = s.rxq := by
  rw [exec_writes_generator_groups_only h]

theorem exec_dec {i : Instr} {s s' : State} (h : exec i s = .next s') : s'.dec = s.dec := by
  rw [exec_writes_generator_groups_only h]

/-- Without a byte an iteration is sub-steps 1 to 6 alone, and none of them touches the decoder. -/
theorem iterate_dec_of_rxq_nil {t : Timestamp} {s s' : State} (hq : s.rxq = [])
    (h : iterate t s = .next s') : s'.dec = s.dec := by
  cases (iterate_nil hq).symm.trans h
  exact generators_dec t s

/-- Settles O12: a command by the frame of `exec`, an iteration without a byte by the frame of the generators. -/
theorem commandsNeverTouchTheByteStream : Obligations.CommandsNeverTouchTheByteStream :=
  ⟨fun _ _ _ h => ⟨exec_rxq h, exec_dec h⟩, fun _ _ _ => iterate_dec_of_rxq_nil⟩

end Sys2Proof.Proofs
end

section
/-! Proofs for 30_encoding.md: the operand of a frame, what the decoder does with a byte in each of its states, and
how it finds a frame in a byte stream. -/

namespace Sys2Proof.Proofs

open Sys2Proof.Machine

/-! ## The operand -/

/-- 30_encoding.md R62. -/
theorem frameValue_toNat (hi lo : Byte) : (frameValue hi lo).toNat = hi.toNat * 256 + lo.toNat := by
  have hlo : lo.toNat < 2 ^ 8 := lo.isLt
  rw [frameValue, BitVec.toNat_append, ← Nat.shiftLeft_add_eq_or_of_lt hlo, Nat.shiftLeft_eq]

/-- Settles O19: the value of the concatenation, and a 16-bit word's bound. -/
theorem frameValueIsHighByteFirst : Obligations.FrameValueIsHighByteFirst :=
  fun hi lo => ⟨frameValue_toNat hi lo, Nat.le_of_lt_succ (frameValue hi lo).isLt⟩

/-! ## One byte in each state of the decoder (40_protocol_decoder.md R81 to R84) -/

theorem decByte_sync {d : DecRegs} (h : d.state = .awaitSync) :
    decByte d 255#8 = ({ d with sync := 255#8, state := .awaitControl }, none) := by
  simp [decByte, h, syncByte]

theorem decByte_stray {d : DecRegs} {b : Byte} (h : d.state = .awaitSync) (hb : b ≠ 255#8) :
    decByte d b = (d, none) := by
  simp [decByte, h, syncByte, hb]

theorem decByte_control {d : DecRegs} (h : d.state = .awaitControl) (b : Byte) :
    decByte d b = ({ d with ctrl := b, state := .awaitValueHigh }, none) := by
  simp [decByte, h]

theorem decByte_valueHigh {d : DecRegs} (h : d.state = .awaitValueHigh) (b : Byte) :
    decByte d b = ({ d with vh := b, state := .awaitValueLow }, none) := by
  simp [decByte, h]

theorem decByte_valueLow {d : DecRegs} (h : d.state = .awaitValueLow) (b : Byte) :
    decByte d b = ({ d with vl := b, state := .awaitSync }, some (d.ctrl, frameValue d.vh b)) := by
  simp [decByte, h]

/-! ## A byte stream from AwaitSync -/

/-- A byte that completes no frame only moves the decoder on. -/
theorem decBytes_cons_of_silent {d d' : DecRegs} {b : Byte} (h : decByte d b = (d', none)) (rest : List Byte) :
    decBytes d (b :: rest) = decBytes d' rest := by
  simp [decBytes, h]

/-- A byte that completes a frame emits it ahead of everything after it. -/
theorem decBytes_cons_of_emits {d d' : DecRegs} {b : Byte} {f : Frame} (h : decByte d b = (d', some f))
    (rest : List Byte) :
    decBytes d (b :: rest) = ((decBytes d' rest).1, f :: (decBytes d' rest).2) := by
  simp [decBytes, h]

theorem decBytes_stray_append {d : DecRegs} {junk : List Byte} (h : d.state = .awaitSync)
    (hjunk : ∀ b ∈ junk, b ≠ 255#8) (rest : List Byte) :
    decBytes d (junk ++ rest) = decBytes d rest := by
  induction junk with
  | nil => rfl
  | cons b bs ih =>
    obtain ⟨hb, hbs⟩ := List.forall_mem_cons.1 hjunk
    rw [List.cons_append, decBytes_cons_of_silent (decByte_stray h hb), ih hbs]

/-- A frame walks the decoder once through its four states, which overwrites every register of it. -/
theorem decBytes_frame {d : DecRegs} (h : d.state = .awaitSync) (b1 b2 b3 : Byte) (rest : List Byte) :
    decBytes d (255#8 :: b1 :: b2 :: b3 :: rest) =
      ((decBytes { state := .awaitSync, sync := 255#8, ctrl := b1, vh := b2, vl := b3 } rest).1,
       (b1, frameValue b2 b3) ::
        (decBytes { state := .awaitSync, sync := 255#8, ctrl := b1, vh := b2, vl := b3 } rest).2) := by
  rw [decBytes_cons_of_silent (decByte_sync h), decBytes_cons_of_silent (decByte_control rfl b1),
    decBytes_cons_of_silent (decByte_valueHigh rfl b2), decBytes_cons_of_emits (decByte_valueLow rfl b3)]

/-- Settles O21: the stray bytes leave the decoder where it is, then the frame's four bytes are counted. -/
theorem framesAreFoundBySyncAndCount : Obligations.FramesAreFoundBySyncAndCount :=
  fun _ _ rest b1 b2 b3 h hjunk =>
    (decBytes_stray_append h hjunk _).trans (decBytes_frame h b1 b2 b3 rest)

end Sys2Proof.Proofs
end

section
/-! Proofs for 40_protocol_decoder.md: the transitions of the decoder's four states. -/

namespace Sys2Proof.Proofs

open Sys2Proof.Machine

/-- Settles O20, one clause per branch of the decoder; the emitted operand is read by R62. -/
theorem decoderTransitions : Obligations.DecoderTransitions := by
  intro d b
  refine ⟨?sync, decByte_stray, ?control, ?valueHigh, ?valueLow⟩
  case sync =>
    rintro h rfl
    exact decByte_sync h
  case control => exact fun h => decByte_control h b
  case valueHigh => exact fun h => decByte_valueHigh h b
  case valueLow => exact fun h => ⟨frameValue d.vh b, frameValue_toNat d.vh b, decByte_valueLow h b⟩

end Sys2Proof.Proofs
end

section
/-! Proofs for 41_cmd_transport.md: the tempo command, and the measure gate with the rate 4. -/

namespace Sys2Proof.Proofs

open Sys2Proof.Machine

/-! ## SONG_BPM -/

/-- 41_cmd_transport.md R90. -/
theorem exec_songBpm (v : Value) (s : State) :
    exec (.songBpm v) s = .next (s.setTransport { s.transport with bpm10 := v }) := rfl

/-- Settles O10: the id 250 is the command's own, and the command is one write to the transport registers. -/
theorem songBpmCommand : Obligations.SongBpmCommand :=
  fun v s => ⟨lookup_controlId (.songBpm v), exec_songBpm v s⟩

/-! ## The measure gate with the rate 4 (R93) -/

theorem rateE5_nine : rateE5 9 = 400000 := rfl

/-- In tenths of the rate 4, `n` measures are ten for each whole group of four and `5/2` for each measure left
over, rounded down: 0, 2, 5 or 7, so fewer than ten. -/
theorem tenths_of_rate_four (n : Nat) : 1000000 * n / 400000 = 10 * (n / 4) + 5 * (n % 4) / 2 := by
  omega

/-- Settles O55: the last digit of the tenths is 0 exactly when no measure is left over in `v - 1`. -/
theorem measureGateAtRateFour : Obligations.MeasureGateAtRateFour := by
  refine ⟨rateE5_nine, fun v hv => ?_⟩
  have hpos : v.toNat ≠ 0 := fun h => hv (BitVec.eq_of_toNat_eq h)
  rw [measureGate_iff, rateE5_nine, tenths_of_rate_four]
  omega

end Sys2Proof.Proofs
end

section
/-! Proofs for 42_cmd_oscillator.md: the rate, waveform, amplitude and phase commands. Each command is one write of
one register of its own channel, said once per command; that all else stays is part of the write. -/

namespace Sys2Proof.Proofs

open Sys2Proof.Machine

/-! ## OSCc_RATE, OSCc_WAVE, OSCc_AMP: the raw value -/

/-- 42_cmd_oscillator.md R102. -/
theorem exec_osc0Rate (v : Value) (s : State) :
    exec (.osc0Rate v) s = .next (s.setOsc .ch0 { s.osc0 with rateIdx := v }) := rfl

/-- 42_cmd_oscillator.md R112. -/
theorem exec_osc1Rate (v : Value) (s : State) :
    exec (.osc1Rate v) s = .next (s.setOsc .ch1 { s.osc1 with rateIdx := v }) := rfl

/-- 42_cmd_oscillator.md R103. -/
theorem exec_osc0Wave (v : Value) (s : State) :
    exec (.osc0Wave v) s = .next (s.setOsc .ch0 { s.osc0 with wave := v }) := rfl

/-- 42_cmd_oscillator.md R113. -/
theorem exec_osc1Wave (v : Value) (s : State) :
    exec (.osc1Wave v) s = .next (s.setOsc .ch1 { s.osc1 with wave := v }) := rfl

/-- 42_cmd_oscillator.md R104; `AMP_EFF` is the mixer's to write. -/
theorem exec_osc0Amp (v : Value) (s : State) :
    exec (.osc0Amp v) s = .next (s.setOsc .ch0 { s.osc0 with amp := v }) := rfl

/-- 42_cmd_oscillator.md R114; `AMP_EFF` is the mixer's to write. -/
theorem exec_osc1Amp (v : Value) (s : State) :
    exec (.osc1Amp v) s = .next (s.setOsc .ch1 { s.osc1 with amp := v }) := rfl

/-- Settles O8: each of the six ids is its command's own, and each command is one write to its own channel. -/
theorem oscRateWaveAmpCommands : Obligations.OscRateWaveAmpCommands :=
  fun v s => ⟨
    lookup_controlId (.osc0Rate v), lookup_controlId (.osc1Rate v),
    lookup_controlId (.osc0Wave v), lookup_controlId (.osc1Wave v),
    lookup_controlId (.osc0Amp v), lookup_controlId (.osc1Amp v),
    exec_osc0Rate v s, exec_osc1Rate v s,
    exec_osc0Wave v s, exec_osc1Wave v s,
    exec_osc0Amp v s, exec_osc1Amp v s⟩

/-! ## OSCc_PHASE: the signed phase numerator -/

/-- 42_cmd_oscillator.md R106. -/
theorem exec_osc0Phase (v : Value) (s : State) :
    exec (.osc0Phase v) s = .next (s.setOsc .ch0 { s.osc0 with phaseNum := phaseNumOf v }) := rfl

/-- 42_cmd_oscillator.md R116. -/
theorem exec_osc1Phase (v : Value) (s : State) :
    exec (.osc1Phase v) s = .next (s.setOsc .ch1 { s.osc1 with phaseNum := phaseNumOf v }) := rfl

/-- Settles O9: both channels take the same numerator, and its 17 signed bits hold all of `360 - v`
(`phaseNumOf_toInt`), so nothing wraps. -/
theorem oscPhaseCommands : Obligations.OscPhaseCommands :=
  fun v s => ⟨
    lookup_controlId (.osc0Phase v), lookup_controlId (.osc1Phase v),
    phaseNumOf v, phaseNumOf_toInt v, exec_osc0Phase v s, exec_osc1Phase v s⟩

end Sys2Proof.Proofs
end

section
/-! Proofs for 43_cmd_envelope.md: the three time commands. Each is one write of one time register of the envelope,
said once per command; that all else stays is part of the write. -/

namespace Sys2Proof.Proofs

open Sys2Proof.Machine

/-- 43_cmd_envelope.md R120. -/
theorem exec_envAttack (v : Value) (s : State) :
    exec (.envAttack v) s = .next (s.setEnv { s.env with attackUs := microsOf v }) := rfl

/-- 43_cmd_envelope.md R121. -/
theorem exec_envDecay (v : Value) (s : State) :
    exec (.envDecay v) s = .next (s.setEnv { s.env with decayUs := microsOf v }) := rfl

/-- 43_cmd_envelope.md R123. -/
theorem exec_envRelease (v : Value) (s : State) :
    exec (.envRelease v) s = .next (s.setEnv { s.env with releaseUs := microsOf v }) := rfl

/-- Settles O1: each of the three ids is its command's own, and the three write the same number of microseconds,
whose 32 bits hold all of `v * 1000` (`microsOf_toNat`), so nothing wraps. -/
theorem envelopeTimeCommands : Obligations.EnvelopeTimeCommands :=
  fun v s => ⟨
    lookup_controlId (.envAttack v), lookup_controlId (.envDecay v), lookup_controlId (.envRelease v),
    microsOf v, microsOf_toNat v,
    exec_envAttack v s, exec_envDecay v s, exec_envRelease v s⟩

end Sys2Proof.Proofs
end

section
/-! Proofs for 44_cmd_sync.md: the frequency, rate and phase commands. Each is one write of one register of the sync
generator, said once per command; that all else stays is part of the write. -/

namespace Sys2Proof.Proofs

open Sys2Proof.Machine

/-- 44_cmd_sync.md R131. -/
theorem exec_syncFreq (v : Value) (s : State) :
    exec (.syncFreq v) s = .next (s.setSync { s.sync with freq100 := v }) := rfl

/-- 44_cmd_sync.md R132; no check of the index against the rate table. -/
theorem exec_syncRate (v : Value) (s : State) :
    exec (.syncRate v) s = .next (s.setSync { s.sync with rateIdx := v }) := rfl

/-- 44_cmd_sync.md R133. -/
theorem exec_syncPhase (v : Value) (s : State) :
    exec (.syncPhase v) s = .next (s.setSync { s.sync with phaseNum := phaseNumOf v }) := rfl

/-- Settles O5: each of the three ids is its command's own, each command is one write to the sync generator, and the
17 signed bits of the phase numerator hold all of `360 - v` (`phaseNumOf_toInt`), so nothing wraps. -/
theorem syncFreqRatePhaseCommands : Obligations.SyncFreqRatePhaseCommands :=
  fun v s => ⟨
    lookup_controlId (.syncFreq v), lookup_controlId (.syncRate v), lookup_controlId (.syncPhase v),
    exec_syncFreq v s, exec_syncRate v s,
    phaseNumOf v, phaseNumOf_toInt v, exec_syncPhase v s⟩

end Sys2Proof.Proofs
end

section
/-! Proofs for 60_exceptions.md: no path through an iteration stops the machine. Each layer of the step, from the
dispatch of a frame outwards, is shown to answer a next state whatever the layer below it is given. -/

namespace Sys2Proof.Proofs

open Sys2Proof.Machine

/-- 30_encoding.md R66: a frame that names no command is as harmless as one that does. -/
theorem dispatchFrame_next (f : Frame) (s : State) : ∃ s', dispatchFrame f s = .next s' := by
  rcases dispatchFrame_cases f s with ⟨i, -, hrun⟩ | ⟨-, hnop⟩
  · rw [hrun]
    exact exec_next i s
  · exact ⟨s, hnop⟩

theorem decStep_next (b : Byte) (s : State) : ∃ s', decStep b s = .next s' := by
  rcases decStep_cases b s with ⟨f, -, hframe⟩ | ⟨-, hsilent⟩
  · rw [hframe]
    exact dispatchFrame_next f _
  · exact ⟨_, hsilent⟩

theorem bytePoll_next (t : Timestamp) (s : State) : ∃ s', bytePoll t s = .next s' := by
  cases hq : s.rxq with
  | nil => exact ⟨s, bytePoll_nil hq⟩
  | cons b q =>
    rw [bytePoll_cons hq]
    exact decStep_next b _

/-- Sub-steps 1 to 6 are total functions of the state, so only the byte poll could stop an iteration. -/
theorem iterate_next (t : Timestamp) (s : State) : ∃ s', iterate t s = .next s' :=
  bytePoll_next t (generators t s)

theorem step_next (s : State) : ∃ s', step s = .next s' := by
  rcases step_cases s with ⟨t, rx, -, htick⟩ | ⟨rx, -, hrst⟩
  · rw [htick]
    exact iterate_next t _
  · exact ⟨_, hrst⟩

/-- Settles O24: a step is a reset or an iteration, and the one place where an iteration could stop is the command
it dispatches, which always answers a next state (`exec_next`). -/
theorem everyStepCompletes : Obligations.EveryStepCompletes := ⟨step_next, exec_next⟩

end Sys2Proof.Proofs
end

section
/-! Proofs for 30_encoding.md and 70_reset_and_hazards.md: decoding and encoding are inverse, which frames and which
frame words are commands, and what an aligned or a misaligned stream of bytes yields. -/

namespace Sys2Proof.Proofs

open Sys2Proof.Machine

/-! ## Bytes of a value and commands of a frame -/

theorem frameValue_highByte (hi lo : Byte) : (frameValue hi lo).extractLsb' 8 8 = hi :=
  BitVec.extractLsb'_append_eq_left

theorem frameValue_lowByte (hi lo : Byte) : (frameValue hi lo).extractLsb' 0 8 = lo :=
  BitVec.extractLsb'_append_eq_right

/-- The lookup answers a command exactly for that command's own id and value. -/
theorem lookup_eq_ok_iff {id : Byte} {v : Value} {i : Instr} :
    lookup id v = .ok i ↔ i.controlId = id ∧ i.value = v := by
  refine ⟨lookup_eq_ok, ?_⟩
  rintro ⟨rfl, rfl⟩
  exact lookup_controlId i

theorem decode_encode_append (i : Instr) (rest : List Byte) : decode (encode i ++ rest) = .ok (i, rest) := by
  simp [decode, encode, Laws.EncodedFrame.frameValue_split, lookup_controlId, Except.map]

/-- Only four bytes with the sync byte in front and a command's id and value after it decode to that command. -/
theorem eq_encode_append_of_decode {bytes rest : List Byte} {i : Instr} (h : decode bytes = .ok (i, rest)) :
    bytes = encode i ++ rest := by
  unfold decode at h
  split at h
  · next b0 b1 b2 b3 tail =>
    split at h
    · next hsync =>
      cases hl : lookup b1 (frameValue b2 b3) with
      | error e =>
        rw [hl] at h
        cases h
      | ok j =>
        rw [hl] at h
        cases h
        obtain ⟨hid, hv⟩ := lookup_eq_ok hl
        simp [encode, hsync, hid, hv, frameValue_highByte, frameValue_lowByte]
    · cases h
  · cases h

/-- Settles O15: the lookup inverts the id, and the two bytes of the value make the value again. -/
theorem decodeAndEncodeAgree : Obligations.DecodeAndEncodeAgree :=
  ⟨fun i rest _ => decode_encode_append i rest, fun _ _ _ => eq_encode_append_of_decode⟩

/-! ## Streams of bytes -/

/-- A command's frame, sent to a decoder in AwaitSync, is emitted first and leaves the decoder in AwaitSync. -/
theorem decBytes_encode_append {d : DecRegs} (h : d.state = .awaitSync) (i : Instr) (rest : List Byte) :
    ∃ d' : DecRegs, d'.state = .awaitSync ∧
      decBytes d (encode i ++ rest) = ((decBytes d' rest).1, (i.controlId, i.value) :: (decBytes d' rest).2) := by
  refine ⟨{ state := .awaitSync, sync := 255#8, ctrl := i.controlId, vh := i.value.extractLsb' 8 8,
            vl := i.value.extractLsb' 0 8 }, rfl, ?_⟩
  have hframe := decBytes_frame h i.controlId (i.value.extractLsb' 8 8) (i.value.extractLsb' 0 8) rest
  rwa [Laws.EncodedFrame.frameValue_split] at hframe

/-- Settles O22, by induction on the program: each frame takes the decoder from AwaitSync to AwaitSync. -/
theorem alignedStreamYieldsItsCommands : Obligations.AlignedStreamYieldsItsCommands := by
  intro program
  induction program with
  | nil => exact fun d h => ⟨h, rfl⟩
  | cons i program ih =>
    intro d h
    obtain ⟨d', h', hframe⟩ := decBytes_encode_append h i (program.flatMap encode)
    obtain ⟨hstate, hframes⟩ := ih d' h'
    rw [List.flatMap_cons, hframe]
    refine ⟨hstate, ?_⟩
    rw [List.map_cons, List.map_cons, hframes, lookup_controlId]

/-- Settles O23: from each of the four states, three bytes other than 255 run to the end of the frame under way, and
those that are left over are strays. -/
theorem threeBytesRealign : Obligations.ThreeBytesRealign := by
  intro d a b c ha hb hc
  cases hd : d.state with
  | awaitSync => simp [decBytes, decByte_stray hd, ha, hb, hc, hd]
  | awaitControl => simp [decBytes, decByte, hd]
  | awaitValueHigh => simp [decBytes, decByte, hd, syncByte, hc]
  | awaitValueLow => simp [decBytes, decByte, hd, syncByte, hb, hc]

/-! ## Assigned ids and frame words -/

theorem assignedId_controlId (i : Instr) : assignedId i.controlId = true := by cases i <;> rfl

/-- The lookup rejects an unassigned id by name, and no other. -/
theorem lookup_eq_error {id : Byte} {v : Value} {e : DecodeReject} (h : lookup id v = .error e) :
    assignedId id = false ∧ e = .unassigned id := by
  unfold lookup at h
  split at h
  case h_28 =>
    cases h
    refine ⟨Bool.eq_false_iff.2 fun hid => ?_, rfl⟩
    simp only [assignedId, Bool.or_eq_true, Bool.and_eq_true, decide_eq_true_eq, beq_iff_eq] at hid
    simp only [imp_false] at *
    omega
  all_goals cases h

/-- The lookup answers a command for the assigned ids. -/
theorem exists_lookup_iff {id : Byte} {v : Value} : (∃ i, lookup id v = .ok i) ↔ assignedId id = true := by
  constructor
  · rintro ⟨i, h⟩
    rw [← (lookup_eq_ok h).1]
    exact assignedId_controlId i
  · intro h
    cases hl : lookup id v with
    | ok i => exact ⟨i, rfl⟩
    | error e => exact absurd h (by simp [(lookup_eq_error hl).1])

theorem lookup_of_unassigned {id : Byte} (v : Value) (h : assignedId id = false) :
    lookup id v = .error (.unassigned id) := by
  cases hl : lookup id v with
  | ok i => exact absurd (exists_lookup_iff.1 ⟨i, hl⟩) (by simp [h])
  | error e => rw [(lookup_eq_error hl).2]

/-- A well-formed frame is the sync byte, an assigned id and any two bytes. -/
theorem frameWellFormed_iff (bytes : List Byte) :
    frameWellFormed bytes = true ↔ ∃ id hi lo, assignedId id = true ∧ bytes = [syncByte, id, hi, lo] := by
  unfold frameWellFormed
  split
  · simp [syncByte]
    tauto
  · next hne =>
    refine ⟨nofun, ?_⟩
    rintro ⟨id, hi, lo, -, rfl⟩
    exact absurd rfl (hne _ _ _ _)

/-- Settles O16: a well-formed frame decodes because its id has a command, and what decodes is a command's own
frame. -/
theorem commandsAreTheAssignedFrames : Obligations.CommandsAreTheAssignedFrames := by
  refine ⟨fun bytes => ?_, fun id v => lookup_of_unassigned v⟩
  rw [frameWellFormed_iff]
  constructor
  · rintro ⟨id, hi, lo, hid, rfl⟩
    obtain ⟨i, hlookup⟩ := (exists_lookup_iff (v := frameValue hi lo)).2 hid
    exact ⟨i, by simp [decode, hlookup, Except.map]⟩
  · rintro ⟨i, h⟩
    exact ⟨_, _, _, assignedId_controlId i, eq_encode_append_of_decode h⟩

/-- The decoder reads a command from a frame word exactly when the word's four bytes are the command's frame. -/
theorem decodeTableWord_eq_some_iff {nbits w : Nat} {i : Instr} :
    decodeTableWord nbits w = some i ↔ wordBytes nbits w = encode i := by
  unfold decodeTableWord
  constructor
  · intro h
    split at h
    · next j rest hd =>
      cases h
      have hbytes := eq_encode_append_of_decode hd
      cases rest with
      | nil => simpa using hbytes
      | cons b rest => simp [wordBytes, encode] at hbytes
    · cases h
  · intro h
    have hd := decode_encode_append i []
    rw [List.append_nil] at hd
    rw [h, hd]

/-- A word of 32 bits is its four bytes, the first in the high bits. -/
theorem wordBytes_eq_iff {w : Nat} (hw : w < 2 ^ 32) (a b c d : Byte) :
    wordBytes 32 w = [a, b, c, d] ↔
      w = a.toNat * 0x1000000 + b.toNat * 0x10000 + c.toNat * 0x100 + d.toNat := by
  simp only [wordBytes, List.cons.injEq, and_true, ← BitVec.toNat_inj, BitVec.extractLsb'_toNat,
    BitVec.toNat_ofNat, Nat.shiftRight_eq_div_pow]
  omega

/-- Settles O17: the word's four bytes are the frame's, and the two bytes of the value make the value. -/
theorem frameWordsDecode : Obligations.FrameWordsDecode := by
  intro w i hw
  have hvalue := frameValue_toNat (i.value.extractLsb' 8 8) (i.value.extractLsb' 0 8)
  rw [Laws.EncodedFrame.frameValue_split] at hvalue
  have hsync : syncByte.toNat = 255 := rfl
  rw [decodeTableWord_eq_some_iff, encode, wordBytes_eq_iff hw, hsync]
  omega

/-- Settles O18: seven words are their commands' frames, and two carry unassigned ids. -/
theorem sampleWordsDecode : Obligations.SampleWordsDecode := by
  unfold Obligations.SampleWordsDecode
  decide

end Sys2Proof.Proofs
end

section
/-! Proofs for 41_cmd_transport.md to 44_cmd_sync.md and 10_state.md section 4: what a command does to each group of
registers as one function of that group, and from it what every command leaves alone. -/

namespace Sys2Proof.Proofs

open Sys2Proof.Machine

/-! ## A command, group by group -/

/-- What a command does to the transport registers. -/
def commandTransport (i : Instr) (r : TransportRegs) : TransportRegs :=
  match i with
  | .songBpm v => { r with bpm10 := v }
  | .songMeasure v => { r with measure := v, ledMeasure := if v = 0 then false else !r.ledMeasure }
  | _ => r

/-- What a command at the timestamp `t` does to the registers of channel `c`. -/
def commandOsc (c : Channel) (i : Instr) (t : Timestamp) (o : OscRegs) : OscRegs :=
  match c, i with
  | .ch0, .osc0Mode v | .ch1, .osc1Mode v => writeMode v o
  | .ch0, .osc0Freq v | .ch1, .osc1Freq v => writeFreq v o
  | .ch0, .osc0Rate v | .ch1, .osc1Rate v => writeRate v o
  | .ch0, .osc0Wave v | .ch1, .osc1Wave v => writeWave v o
  | .ch0, .osc0Amp v | .ch1, .osc1Amp v => writeAmp v o
  | .ch0, .osc0Offset v | .ch1, .osc1Offset v => writeOffset v o
  | .ch0, .osc0Phase v | .ch1, .osc1Phase v => writePhase v o
  | .ch0, .osc0Env v | .ch1, .osc1Env v => writeEnvEn v o
  | _, .songMeasure v => if v = 0 then o else resyncOsc t v o
  | _, _ => o

/-- What a command at the timestamp `t` does to the envelope. -/
def commandEnv (i : Instr) (t : Timestamp) (e : EnvRegs) : EnvRegs :=
  match i with
  | .envAttack v => { e with attackUs := microsOf v }
  | .envDecay v => { e with decayUs := microsOf v }
  | .envSustain v => { e with sustain := sustainMap v }
  | .envRelease v => { e with releaseUs := microsOf v }
  | .envTrigger v => if v = 1 then noteOn t e else if v = 0 then noteOff t e else e
  | _ => e

/-- What a command at the timestamp `t` does to the sync generator. -/
def commandSync (i : Instr) (t : Timestamp) (y : SyncRegs) : SyncRegs :=
  match i with
  | .syncMode v => { y with mode := modeOf v }
  | .syncFreq v => { y with freq100 := v }
  | .syncRate v => { y with rateIdx := v }
  | .syncPhase v => { y with phaseNum := phaseNumOf v }
  | .songMeasure v => if v = 0 then y else resyncSync t v y
  | _ => y

/-- The state after a command. -/
def afterCommand (i : Instr) (s : State) : State :=
  { s with
    transport := commandTransport i s.transport
    osc0 := commandOsc .ch0 i s.tLast s.osc0
    osc1 := commandOsc .ch1 i s.tLast s.osc1
    env := commandEnv i s.tLast s.env
    sync := commandSync i s.tLast s.sync }

/-- A command acts on each group of registers by itself: on the group's old contents and `T_LAST` alone. -/
theorem exec_eq_afterCommand (i : Instr) (s : State) : exec i s = .next (afterCommand i s) := by
  cases i with
  | songMeasure v =>
    by_cases hv : v = 0
    · subst hv
      exact execSongMeasure_zero s
    · refine (execSongMeasure_nonzero hv s).trans ?_
      simp only [afterCommand, commandTransport, commandOsc, commandEnv, commandSync, if_neg hv]
      rfl
  | _ => rfl

theorem eq_afterCommand_of_exec {i : Instr} {s s' : State} (h : exec i s = .next s') : s' = afterCommand i s :=
  Host.Outcome.next.inj (h.symm.trans (exec_eq_afterCommand i s))

/-! ## What a command leaves alone in each group (10_state.md section 4) -/

section Frame

variable (c : Channel) (i : Instr) (t : Timestamp) (o : OscRegs) (e : EnvRegs) (y : SyncRegs)

/-- The run-time registers of a channel other than the epoch are the generators' to write. (The branch `h_17` of the
split is SONG_MEASURE.) -/
theorem commandOsc_frame :
    commandOsc c i t o =
      { commandOsc c i t o with acc := o.acc, ampEff := o.ampEff, dac := o.dac, ledOsc := o.ledOsc } := by
  unfold commandOsc
  split
  case h_17 v => split <;> rfl
  all_goals rfl

@[simp] theorem commandOsc_acc : (commandOsc c i t o).acc = o.acc := by rw [commandOsc_frame]
@[simp] theorem commandOsc_ampEff : (commandOsc c i t o).ampEff = o.ampEff := by rw [commandOsc_frame]
@[simp] theorem commandOsc_dac : (commandOsc c i t o).dac = o.dac := by rw [commandOsc_frame]
@[simp] theorem commandOsc_ledOsc : (commandOsc c i t o).ledOsc = o.ledOsc := by rw [commandOsc_frame]

/-- An event keeps the output: it starts the new stage from there. -/
@[simp] theorem noteOff_out : (noteOff t e).out = e.out := by
  unfold noteOff
  split <;> rfl

/-- `ENV_OUT` is the update's to write. (The branch `h_5` of the split is ENV_TRIGGER.) -/
@[simp] theorem commandEnv_out : (commandEnv i t e).out = e.out := by
  unfold commandEnv
  split
  case h_5 v => split_ifs <;> [rfl; exact noteOff_out t e; rfl]
  all_goals rfl

/-- `SYNC_OUT` and `LED_SYNC` are the generator's to write. (The branch `h_5` of the split is SONG_MEASURE.) -/
theorem commandSync_frame : commandSync i t y = { commandSync i t y with out := y.out, led := y.led } := by
  unfold commandSync
  split
  case h_5 v => split <;> rfl
  all_goals rfl

@[simp] theorem commandSync_out : (commandSync i t y).out = y.out := by rw [commandSync_frame]
@[simp] theorem commandSync_led : (commandSync i t y).led = y.led := by rw [commandSync_frame]

end Frame

/-- Settles O13: group by group, a command writes no register of a generator's output. -/
theorem commandsNeverWriteGeneratorOutputs : Obligations.CommandsNeverWriteGeneratorOutputs := by
  intro i s s' h
  rw [eq_afterCommand_of_exec h]
  simp [afterCommand]

/-! ## The epochs (45_lfo_phase.md R144) -/

theorem resyncOsc_tEpoch_of_ne {t : Timestamp} {v : Value} {o : OscRegs}
    (h : (resyncOsc t v o).tEpoch ≠ o.tEpoch) :
    o.mode = .tempo ∧ measureGate v o.rateIdx = true ∧ (resyncOsc t v o).tEpoch = t := by
  simp only [resyncOsc] at h ⊢
  split at h
  · next hgate => exact ⟨hgate.1, hgate.2, if_pos hgate⟩
  · exact absurd rfl h

/-- The epoch of a channel is moved by SONG_MEASURE alone, and only under its gate. -/
theorem commandOsc_tEpoch_of_ne {c : Channel} {i : Instr} {t : Timestamp} {o : OscRegs}
    (h : (commandOsc c i t o).tEpoch ≠ o.tEpoch) :
    ∃ v, v ≠ 0 ∧ i = .songMeasure v ∧ o.mode = .tempo ∧ measureGate v o.rateIdx = true ∧
      (commandOsc c i t o).tEpoch = t := by
  unfold commandOsc at h ⊢
  split at h
  case h_17 v =>
    split at h
    · exact absurd rfl h
    · next hv =>
      simp only [if_neg hv]
      exact ⟨v, hv, rfl, resyncOsc_tEpoch_of_ne h⟩
  all_goals exact absurd rfl h

theorem resyncSync_epoch_of_ne {t : Timestamp} {v : Value} {y : SyncRegs}
    (h : (resyncSync t v y).epoch ≠ y.epoch) :
    y.mode = .tempo ∧ measureGate v y.rateIdx = true ∧ (resyncSync t v y).epoch = t := by
  simp only [resyncSync] at h ⊢
  split at h
  · next hgate => exact ⟨hgate.1, hgate.2, if_pos hgate⟩
  · exact absurd rfl h

theorem commandSync_epoch_of_ne {i : Instr} {t : Timestamp} {y : SyncRegs}
    (h : (commandSync i t y).epoch ≠ y.epoch) :
    ∃ v, v ≠ 0 ∧ i = .songMeasure v ∧ y.mode = .tempo ∧ measureGate v y.rateIdx = true ∧
      (commandSync i t y).epoch = t := by
  unfold commandSync at h ⊢
  split at h
  case h_5 v =>
    split at h
    · exact absurd rfl h
    · next hv =>
      simp only [if_neg hv]
      exact ⟨v, hv, rfl, resyncSync_epoch_of_ne h⟩
  all_goals exact absurd rfl h

/-! ## SONG_MEASURE -/

/-- Settles O11: the two cases of the command; the gate of a generator is the model's `measureGate`. -/
theorem songMeasureCommand : Obligations.SongMeasureCommand := by
  refine fun v s => ⟨lookup_controlId (.songMeasure v), ?zero, ?nonzero⟩
  case zero =>
    rintro rfl
    exact execSongMeasure_zero s
  case nonzero =>
    intro hv
    refine (execSongMeasure_nonzero hv s).trans ?_
    simp only [resyncOsc, resyncSync, measureGate_iff]
    rfl

/-! ## ENV_TRIGGER, SYNC_MODE, OSCc_MODE, OSCc_ENV, OSCc_FREQ, OSCc_OFFSET -/

theorem gateOpen_iff (st : EnvState) : gateOpen st = true ↔ st = .attack ∨ st = .decay ∨ st = .sustain := by
  cases st <;> simp [gateOpen]

/-- Settles O3: 1 is a note-on, 0 a note-off, whose condition is the open gate. -/
theorem envelopeTriggerCommand : Obligations.EnvelopeTriggerCommand := by
  refine fun v s => ⟨lookup_controlId (.envTrigger v), (exec_eq_afterCommand _ s).trans ?_⟩
  simp only [afterCommand, commandTransport, commandOsc, commandEnv, commandSync, noteOn, noteOff, gateOpen_iff,
    ite_and]

/-- 44_cmd_sync.md R130. -/
theorem exec_syncMode (v : Value) (s : State) :
    exec (.syncMode v) s = .next (s.setSync { s.sync with mode := modeOf v }) := rfl

/-- Settles O4: the id is the command's own, and the command is one write to the sync generator. -/
theorem syncModeCommand : Obligations.SyncModeCommand :=
  fun v s => ⟨lookup_controlId (.syncMode v), exec_syncMode v s⟩

/-- 30_encoding.md R67, "boolean". -/
theorem enableOf_eq_decide (v : Value) : enableOf v = decide (v ≠ 0) := by
  simp [enableOf, bne, beq_eq_decide]

/-- Settles O6: each of the four ids is its command's own, and each command is one write to its own channel. -/
theorem oscModeAndEnableCommands : Obligations.OscModeAndEnableCommands := by
  refine fun v s => ⟨
    lookup_controlId (.osc0Mode v), lookup_controlId (.osc1Mode v),
    lookup_controlId (.osc0Env v), lookup_controlId (.osc1Env v), rfl, rfl, ?_, ?_⟩
  all_goals
    rw [← enableOf_eq_decide]
    rfl

/-- Settles O7: each of the four ids is its command's own, and each command is one write to its own channel. -/
theorem oscFreqAndOffsetCommands : Obligations.OscFreqAndOffsetCommands :=
  fun v _ => ⟨
    lookup_controlId (.osc0Freq v), lookup_controlId (.osc1Freq v),
    lookup_controlId (.osc0Offset v), lookup_controlId (.osc1Offset v), rfl, rfl, rfl, rfl⟩

/-! ## The rate indices (93_implementation_defined.md U2) -/

/-- A channel's rate index stays or takes the value of a rate command, whose nominal values are below 24. -/
theorem commandOsc_rateIdx_of_nominal {c : Channel} {i : Instr} (t : Timestamp) {o : OscRegs}
    (hi : i.nominal = true) (ho : o.rateIdx.toNat < 24) : (commandOsc c i t o).rateIdx.toNat < 24 := by
  unfold commandOsc
  split
  case h_5 v | h_6 v => exact Nat.lt_succ_of_le (of_decide_eq_true hi)
  case h_17 v => split <;> exact ho
  all_goals exact ho

theorem commandSync_rateIdx_of_nominal {i : Instr} (t : Timestamp) {y : SyncRegs}
    (hi : i.nominal = true) (hy : y.rateIdx.toNat < 24) : (commandSync i t y).rateIdx.toNat < 24 := by
  unfold commandSync
  split
  case h_3 v => exact Nat.lt_succ_of_le (of_decide_eq_true hi)
  case h_5 v => split <;> exact hy
  all_goals exact hy

/-- Settles O56: each of the three indices by itself. -/
theorem nominalCommandsStayInTheRateTable : Obligations.NominalCommandsStayInTheRateTable := by
  rintro i s s' hi ⟨h0, h1, hsync⟩ h
  rw [eq_afterCommand_of_exec h]
  exact ⟨commandOsc_rateIdx_of_nominal _ hi h0, commandOsc_rateIdx_of_nominal _ hi h1,
    commandSync_rateIdx_of_nominal _ hi hsync⟩

end Sys2Proof.Proofs
end

section
/-! Proofs for 49_watchdog_and_iteration.md and 40_protocol_decoder.md: one iteration as one equation, which byte
dispatches which command, and what an iteration and a step change, keep and never read. -/

namespace Sys2Proof.Proofs

open Sys2Proof.Machine

/-! ## One iteration as an equation -/

/-- The command the oldest byte of a queue completes, if it completes a frame and the frame names one. -/
def dispatched (d : DecRegs) (queue : List Byte) : Option Instr :=
  match queue with
  | [] => none
  | b :: _ => if d.state = .awaitValueLow then (lookup d.ctrl (frameValue d.vh b)).toOption else none

/-- The state before the dispatch: sub-steps 1 to 6 and, when a byte waits, its pop, the watchdog and the decoder. -/
def beforeDispatch (t : Timestamp) (s : State) : State :=
  match s.rxq with
  | [] => generators t s
  | b :: q => afterByte t s q (decByte s.dec b).1

/-- The state after the dispatch of a command or of none. -/
def runDispatched (c : Option Instr) (s : State) : State :=
  match c with
  | none => s
  | some i => afterCommand i s

theorem dispatched_cons_eq_some_iff {d : DecRegs} {b : Byte} {q : List Byte} {i : Instr} :
    dispatched d (b :: q) = some i ↔ d.state = .awaitValueLow ∧ lookup d.ctrl (frameValue d.vh b) = .ok i := by
  simp only [dispatched]
  cases lookup d.ctrl (frameValue d.vh b) <;> simp [Except.toOption]

/-- The command an iteration dispatches, in the words of the statements. -/
theorem dispatched_eq_some_iff {s : State} {rx : List Byte} {i : Instr} :
    dispatched s.dec (s.rxq ++ rx) = some i ↔ s.frameCompletes rx i.controlId i.value := by
  unfold State.frameCompletes
  cases s.rxq ++ rx with
  | nil => simp [dispatched]
  | cons b q =>
    rw [dispatched_cons_eq_some_iff, lookup_eq_ok_iff]
    constructor
    · rintro ⟨hs, hid, hv⟩
      exact ⟨b, q, rfl, hs, hid.symm, hv.symm⟩
    · rintro ⟨b', q', hcons, hs, hid, hv⟩
      cases hcons
      exact ⟨hs, hid.symm, hv.symm⟩

/-- The state an iteration answers. -/
def iterated (t : Timestamp) (s : State) : State :=
  runDispatched (dispatched s.dec s.rxq) (beforeDispatch t s)

/-- An iteration is everything before the dispatch, then the command the oldest byte completes, if any. -/
theorem iterate_eq (t : Timestamp) (s : State) :
    iterate t s = .next (iterated t s) := by
  unfold iterated dispatched beforeDispatch
  cases hq : s.rxq with
  | nil => exact iterate_nil hq
  | cons b q =>
    rw [iterate_cons hq]
    by_cases hs : s.dec.state = .awaitValueLow
    · simp only [decByte_valueLow hs, if_pos hs, dispatchFrame]
      cases lookup s.dec.ctrl (frameValue s.dec.vh b) with
      | error e => rfl
      | ok i => exact exec_eq_afterCommand i _
    · have hf : (decByte s.dec b).2 = none := by
        simpa using mt (decByte_emits_iff s.dec b).1 hs
      simp only [hf, if_neg hs]
      rfl

theorem eq_iterated_of_iterate {t : Timestamp} {s s' : State} (h : iterate t s = .next s') : s' = iterated t s :=
  Host.Outcome.next.inj (h.symm.trans (iterate_eq t s))

/-- A tick's step answers the iteration's state, the arrived bytes at the end of the queue. -/
theorem eq_iterated_of_step {s s' : State} {t : Timestamp} {rx : List Byte} (hin : s.nextInput = .tick t rx)
    (h : step s = .next s') : s' = iterated t (s.dropInput.receive rx) :=
  eq_iterated_of_iterate ((step_tick hin).symm.trans h)

/-! ## What the byte poll leaves alone: the generators' registers keep what sub-steps 1 to 6 wrote -/

section Frame

variable (t : Timestamp) (s : State) (c : Option Instr)

theorem beforeDispatch_frame :
    beforeDispatch t s =
      { generators t s with
        dec := (beforeDispatch t s).dec, wd := (beforeDispatch t s).wd, rxq := (beforeDispatch t s).rxq } := by
  unfold beforeDispatch
  split <;> rfl

@[simp] theorem beforeDispatch_transport : (beforeDispatch t s).transport = s.transport := by
  rw [beforeDispatch_frame]
  rfl
@[simp] theorem beforeDispatch_osc0 : (beforeDispatch t s).osc0 = (generators t s).osc0 := by
  rw [beforeDispatch_frame]
@[simp] theorem beforeDispatch_osc1 : (beforeDispatch t s).osc1 = (generators t s).osc1 := by
  rw [beforeDispatch_frame]
@[simp] theorem beforeDispatch_env : (beforeDispatch t s).env = envTickRegs t s.env := by
  rw [beforeDispatch_frame]
  rfl
@[simp] theorem beforeDispatch_sync : (beforeDispatch t s).sync = syncRegsAt t s.transport.bpm10 s.sync := by
  rw [beforeDispatch_frame]
  rfl
@[simp] theorem beforeDispatch_tLast : (beforeDispatch t s).tLast = t := by
  rw [beforeDispatch_frame]
  rfl

/-- The registers no command writes come out of an iteration as the generators and the byte poll left them. -/
theorem runDispatched_frame :
    runDispatched c s =
      { s with transport := (runDispatched c s).transport, osc0 := (runDispatched c s).osc0,
               osc1 := (runDispatched c s).osc1, env := (runDispatched c s).env,
               sync := (runDispatched c s).sync } := by
  cases c <;> rfl

@[simp] theorem runDispatched_wd : (runDispatched c s).wd = s.wd := by rw [runDispatched_frame]
@[simp] theorem runDispatched_tLast : (runDispatched c s).tLast = s.tLast := by rw [runDispatched_frame]
@[simp] theorem runDispatched_dec : (runDispatched c s).dec = s.dec := by rw [runDispatched_frame]

@[simp] theorem runDispatched_osc0_acc : (runDispatched c s).osc0.acc = s.osc0.acc := by
  cases c <;> simp [runDispatched, afterCommand]
@[simp] theorem runDispatched_osc1_acc : (runDispatched c s).osc1.acc = s.osc1.acc := by
  cases c <;> simp [runDispatched, afterCommand]
@[simp] theorem runDispatched_osc0_ampEff : (runDispatched c s).osc0.ampEff = s.osc0.ampEff := by
  cases c <;> simp [runDispatched, afterCommand]
@[simp] theorem runDispatched_osc1_ampEff : (runDispatched c s).osc1.ampEff = s.osc1.ampEff := by
  cases c <;> simp [runDispatched, afterCommand]
@[simp] theorem runDispatched_osc0_dac : (runDispatched c s).osc0.dac = s.osc0.dac := by
  cases c <;> simp [runDispatched, afterCommand]
@[simp] theorem runDispatched_osc1_dac : (runDispatched c s).osc1.dac = s.osc1.dac := by
  cases c <;> simp [runDispatched, afterCommand]
@[simp] theorem runDispatched_osc0_ledOsc : (runDispatched c s).osc0.ledOsc = s.osc0.ledOsc := by
  cases c <;> simp [runDispatched, afterCommand]
@[simp] theorem runDispatched_osc1_ledOsc : (runDispatched c s).osc1.ledOsc = s.osc1.ledOsc := by
  cases c <;> simp [runDispatched, afterCommand]
@[simp] theorem runDispatched_env_out : (runDispatched c s).env.out = s.env.out := by
  cases c <;> simp [runDispatched, afterCommand]
@[simp] theorem runDispatched_sync_out : (runDispatched c s).sync.out = s.sync.out := by
  cases c <;> simp [runDispatched, afterCommand]
@[simp] theorem runDispatched_sync_led : (runDispatched c s).sync.led = s.sync.led := by
  cases c <;> simp [runDispatched, afterCommand]

/-! The five groups a command can write, as the generators and then the command leave them. -/

theorem iterated_transport :
    (iterated t s).transport =
      (dispatched s.dec s.rxq).elim s.transport fun i => commandTransport i s.transport := by
  cases h : dispatched s.dec s.rxq <;> simp [iterated, h, runDispatched, afterCommand]

theorem iterated_osc0 :
    (iterated t s).osc0 =
      (dispatched s.dec s.rxq).elim (generators t s).osc0 fun i => commandOsc .ch0 i t (generators t s).osc0 := by
  cases h : dispatched s.dec s.rxq <;> simp [iterated, h, runDispatched, afterCommand]

theorem iterated_osc1 :
    (iterated t s).osc1 =
      (dispatched s.dec s.rxq).elim (generators t s).osc1 fun i => commandOsc .ch1 i t (generators t s).osc1 := by
  cases h : dispatched s.dec s.rxq <;> simp [iterated, h, runDispatched, afterCommand]

theorem iterated_env :
    (iterated t s).env =
      (dispatched s.dec s.rxq).elim (envTickRegs t s.env) fun i => commandEnv i t (envTickRegs t s.env) := by
  cases h : dispatched s.dec s.rxq <;> simp [iterated, h, runDispatched, afterCommand]

theorem iterated_sync :
    (iterated t s).sync =
      (dispatched s.dec s.rxq).elim (generators t s).sync fun i => commandSync i t (generators t s).sync := by
  cases h : dispatched s.dec s.rxq <;> simp [iterated, h, runDispatched, afterCommand, generators_sync]

end Frame

/-- Settles O30: the outputs are those of sub-steps 1 to 6, which do not read the queue. -/
theorem bytesActFromTheNextIteration : Obligations.BytesActFromTheNextIteration := by
  intro t s q q' a b ha hb
  rw [eq_iterated_of_iterate ha, eq_iterated_of_iterate hb]
  simp [iterated, generators]

/-! ## The steps of the byte stream -/

/-- Settles O25: without a byte an iteration is `generators`. -/
theorem iterationOrder : Obligations.IterationOrder := fun _ _ hq => iterate_nil hq

/-- An iteration whose byte completes a frame dispatches that frame. -/
theorem iterate_of_frame {t : Timestamp} {s : State} {b : Byte} {q : List Byte} (hq : s.rxq = b :: q)
    (hs : s.dec.state = .awaitValueLow) :
    iterate t s = dispatchFrame (s.dec.ctrl, frameValue s.dec.vh b)
      (afterByte t s q { s.dec with vl := b, state := .awaitSync }) := by
  rw [iterate_cons hq, decByte_valueLow hs]

/-- Settles O26: the completed frame is dispatched, and its lookup is the command. -/
theorem stepRunsTheDecodedCommand : Obligations.StepRunsTheDecodedCommand := by
  intro s t rx q b i hin hq hs hl
  rw [step_tick hin, iterate_of_frame (s := s.dropInput.receive rx) hq hs]
  simp only [dispatchFrame, State.receive_dec, State.dropInput_dec, hl]

/-- Settles O28: the completed frame is dispatched, and the lookup of its id is a rejection. -/
theorem unassignedFrameDoesNothingElse : Obligations.UnassignedFrameDoesNothingElse := by
  intro t s b q hq hs hid
  rw [iterate_of_frame hq hs]
  simp only [dispatchFrame, lookup_of_unassigned _ hid]

/-! ## A frame byte by byte -/

theorem hostConfig_beforeDispatch (t : Timestamp) (s : State) :
    (beforeDispatch t s).hostConfig = s.hostConfig := by
  unfold beforeDispatch
  split <;> rfl

/-- A listed tick whose byte completes no frame takes the byte and keeps the configuration. -/
theorem step_of_silent_byte {s : State} {t : Timestamp} {rx : List Byte} {later : List Input} {b : Byte}
    {q : List Byte} {d : DecRegs} (hin : s.inputs = .tick t rx :: later) (hq : s.rxq ++ rx = b :: q)
    (hd : decByte s.dec b = (d, none)) :
    ∃ s', step s = .next s' ∧ s'.dec = d ∧ s'.rxq = q ∧ s'.inputs = later ∧ s'.hostConfig = s.hostConfig := by
  refine ⟨afterByte t (s.dropInput.receive rx) q d, ?_, rfl, rfl, ?_, rfl⟩
  · rw [step_tick (State.nextInput_cons hin), iterate_cons hq, State.receive_dec, State.dropInput_dec, hd]
  · simp [hin]

/-- A listed tick whose byte completes a command's frame runs that command, on the configuration before the tick. -/
theorem step_of_completing_byte {s : State} {t : Timestamp} {rx : List Byte} {later : List Input} {b : Byte}
    {q : List Byte} {i : Instr} (hin : s.inputs = .tick t rx :: later) (hq : s.rxq ++ rx = b :: q)
    (hs : s.dec.state = .awaitValueLow) (hl : lookup s.dec.ctrl (frameValue s.dec.vh b) = .ok i) :
    ∃ u, step s = exec i u ∧ u.tLast = t ∧ u.hostConfig = s.hostConfig ∧ u.rxq = q ∧ u.inputs = later ∧
      u.wd = { last := t, conn := true } ∧ u.dec = { s.dec with vl := b, state := .awaitSync } := by
  have hstep := stepRunsTheDecodedCommand s t rx q b i (State.nextInput_cons hin) hq hs hl
  refine ⟨_, hstep, rfl, rfl, rfl, ?_, rfl, rfl⟩
  simp [hin]

/-- The placed state: three bytes of the frame taken, the fourth the oldest of the queue, a tick to come. -/
theorem withFetchWord_of_wordBytes {w : Nat} {i : Instr} (s : State) (h : wordBytes 32 w = encode i) :
    s.withFetchWord 32 w =
      { s with
        dec := { s.dec with state := .awaitValueLow, sync := 255#8, ctrl := i.controlId,
                            vh := i.value.extractLsb' 8 8 }
        rxq := i.value.extractLsb' 0 8 :: s.rxq
        inputs := .tick s.tLast [] :: s.inputs } := by
  unfold State.withFetchWord placeFrameWord
  rw [h]
  rfl

/-- The lookup of what a command's frame carries. -/
theorem lookup_encoded (i : Instr) :
    lookup i.controlId (frameValue (i.value.extractLsb' 8 8) (i.value.extractLsb' 0 8)) = .ok i := by
  rw [Laws.EncodedFrame.frameValue_split, lookup_controlId]

/-- Settles O27: the word's bytes are the command's frame, of which three have been taken and the fourth waits. -/
theorem placedWordRunsNext : Obligations.PlacedWordRunsNext := by
  intro s w i hw
  have hplaced := withFetchWord_of_wordBytes s (decodeTableWord_eq_some_iff.1 hw)
  generalize s.withFetchWord 32 w = p at hplaced ⊢
  obtain ⟨u, hu, ht, hcfg, hrxq, hin, -, hdec⟩ := step_of_completing_byte (s := p) (t := s.tLast) (rx := [])
    (later := s.inputs) (b := i.value.extractLsb' 0 8) (q := s.rxq) (i := i)
    (by rw [hplaced]) (by rw [hplaced, List.append_nil]) (by rw [hplaced])
    (by rw [hplaced]; exact lookup_encoded i)
  refine ⟨u, hu, ht, ?_, hrxq, hin, by rw [hdec], by rw [hdec, hplaced]⟩
  rw [hcfg, hplaced]
  rfl

theorem core_run_one (s : State) : Sys2Proof.core.run 1 s = step s := by
  obtain ⟨s', h⟩ := step_next s
  rw [h]
  exact core_run_next 0 h

/-- Settles O29: three ticks whose bytes complete no frame, then the one that completes the command's. -/
theorem fourBytesRunOneCommand : Obligations.FourBytesRunOneCommand := by
  intro s i t0 t1 t2 t3 later hs hq hin
  obtain ⟨s1, hstep1, hdec1, hq1, hin1, hcfg1⟩ := step_of_silent_byte hin (by rw [hq]; rfl) (decByte_sync hs)
  obtain ⟨s2, hstep2, hdec2, hq2, hin2, hcfg2⟩ := step_of_silent_byte hin1 (by rw [hq1]; rfl)
    (decByte_control (by rw [hdec1]) _)
  obtain ⟨s3, hstep3, hdec3, hq3, hin3, hcfg3⟩ := step_of_silent_byte hin2 (by rw [hq2]; rfl)
    (decByte_valueHigh (by rw [hdec2]) _)
  have hcfg : s3.hostConfig = s.hostConfig := hcfg3.trans (hcfg2.trans hcfg1)
  rw [hdec2, hdec1] at hdec3
  obtain ⟨u, hu, ht, hcfgu, hrxq, hinu, hwd, hdec⟩ := step_of_completing_byte (i := i) hin3 (by rw [hq3]; rfl)
    (by rw [hdec3]) (by rw [hdec3]; exact lookup_encoded i)
  rw [hdec3] at hdec
  refine ⟨⟨s3, ?_, hcfg⟩, u, ?_, ht, hcfgu.trans hcfg, hrxq, hinu, hwd, ?_⟩
  · rw [core_run_next 2 hstep1, core_run_next 1 hstep2, core_run_one]
    exact hstep3
  · rw [core_run_next 3 hstep1, core_run_next 2 hstep2, core_run_next 1 hstep3, core_run_one, hu]
  · rw [hdec]
    exact ⟨rfl, rfl, Laws.EncodedFrame.frameValue_split i.value⟩

/-! ## What an iteration never reads -/

theorem beforeDispatch_of_nil {t : Timestamp} {s : State} (h : s.rxq = []) :
    beforeDispatch t s = generators t s := by
  simp [beforeDispatch, h]

theorem beforeDispatch_of_cons {t : Timestamp} {s : State} {b : Byte} {q : List Byte} (h : s.rxq = b :: q) :
    beforeDispatch t s = afterByte t s q (decByte s.dec b).1 := by
  simp [beforeDispatch, h]

/-- The watchdog's registers overwritten. -/
def overwriteWd (w : WdRegs) (s : State) : State := { s with wd := w }

theorem overwriteWd_beforeDispatch (w : WdRegs) (t : Timestamp) (s : State) :
    overwriteWd w (beforeDispatch t s) = overwriteWd w (beforeDispatch t (overwriteWd w s)) := by
  cases hq : s.rxq with
  | nil =>
    rw [beforeDispatch_of_nil hq, beforeDispatch_of_nil (s := overwriteWd w s) hq]
    rfl
  | cons b q =>
    rw [beforeDispatch_of_cons hq, beforeDispatch_of_cons (s := overwriteWd w s) hq]
    rfl

theorem overwriteWd_runDispatched (w : WdRegs) (c : Option Instr) (s : State) :
    overwriteWd w (runDispatched c s) = runDispatched c (overwriteWd w s) := by
  cases c <;> rfl

/-- What an iteration leaves outside the watchdog does not depend on the watchdog. -/
theorem overwriteWd_iterated (w : WdRegs) (t : Timestamp) (s : State) :
    overwriteWd w (iterated t s) = overwriteWd w (iterated t (overwriteWd w s)) := by
  unfold iterated
  rw [overwriteWd_runDispatched, overwriteWd_beforeDispatch, ← overwriteWd_runDispatched]
  rfl

/-- Settles O33: both states are the same once their watchdogs are overwritten. -/
theorem watchdogAffectsNothingElse : Obligations.WatchdogAffectsNothingElse := by
  intro t s a b w ha hb
  rw [eq_iterated_of_iterate ha, eq_iterated_of_iterate hb]
  exact overwriteWd_iterated w t s

/-- `MEASURE` and `FR_SYNC` overwritten with 0. -/
def eraseUnread (s : State) : State :=
  { s with transport := { s.transport with measure := 0 }, dec := { s.dec with sync := 0 } }

/-- The decoder writes `FR_SYNC` and never reads it. -/
theorem decByte_eraseSync (d : DecRegs) (b : Byte) :
    { (decByte { d with sync := 0 } b).1 with sync := 0 } = { (decByte d b).1 with sync := 0 } := by
  obtain ⟨state, sync, ctrl, vh, vl⟩ := d
  cases state
  case awaitSync =>
    simp only [decByte]
    split <;> rfl
  all_goals rfl

theorem dispatched_eraseSync (d : DecRegs) (queue : List Byte) :
    dispatched { d with sync := 0 } queue = dispatched d queue := by
  cases queue <;> rfl

/-- SONG_MEASURE writes `MEASURE`, and no command reads it. -/
theorem commandTransport_eraseMeasure (i : Instr) (r : TransportRegs) :
    { commandTransport i { r with measure := 0 } with measure := 0 } =
      { commandTransport i r with measure := 0 } := by
  cases i <;> rfl

theorem eraseUnread_beforeDispatch (t : Timestamp) (s : State) :
    eraseUnread (beforeDispatch t (eraseUnread s)) = eraseUnread (beforeDispatch t s) := by
  cases hq : s.rxq with
  | nil =>
    rw [beforeDispatch_of_nil hq, beforeDispatch_of_nil (s := eraseUnread s) hq]
    rfl
  | cons b q =>
    rw [beforeDispatch_of_cons hq, beforeDispatch_of_cons (s := eraseUnread s) hq]
    have hdec := decByte_eraseSync s.dec b
    simp only [eraseUnread, State.setDec_dec] 
    rw [hdec]
    rfl

theorem eraseUnread_runDispatched (c : Option Instr) (s : State) :
    eraseUnread (runDispatched c (eraseUnread s)) = eraseUnread (runDispatched c s) := by
  cases c with
  | none => rfl
  | some i =>
    have htransport := commandTransport_eraseMeasure i s.transport
    simp only [eraseUnread, runDispatched, afterCommand]
    rw [htransport]

/-- What an iteration leaves outside `MEASURE` and `FR_SYNC` does not depend on them. -/
theorem eraseUnread_iterated (t : Timestamp) (s : State) :
    eraseUnread (iterated t (eraseUnread s)) = eraseUnread (iterated t s) := by
  unfold iterated
  rw [← eraseUnread_runDispatched, eraseUnread_beforeDispatch, eraseUnread_runDispatched]
  rw [show dispatched (eraseUnread s).dec (eraseUnread s).rxq = dispatched s.dec s.rxq from
    dispatched_eraseSync s.dec s.rxq]

/-- Settles O32: both states are the same once the two registers are erased. -/
theorem measureAndSyncByteAreNeverRead : Obligations.MeasureAndSyncByteAreNeverRead := by
  intro t s a b m f ha hb
  rw [eq_iterated_of_iterate ha, eq_iterated_of_iterate hb]
  exact (eraseUnread_iterated t s).symm.trans (eraseUnread_iterated t { s with
    transport := { s.transport with measure := m }, dec := { s.dec with sync := f } })

/-! ## The watchdog and the command-written registers over one tick -/

/-- Settles O34: a consumed byte overwrites the watchdog; without one, the check of sub-step 6 stands. -/
theorem watchdogOverOneStep : Obligations.WatchdogOverOneStep := by
  intro s s' t rx hin h
  rw [eq_iterated_of_step hin h, iterated, runDispatched_wd]
  constructor
  · intro hq
    obtain ⟨b, q, hq⟩ := List.exists_cons_of_ne_nil hq
    rw [beforeDispatch_of_cons (s := s.dropInput.receive rx) hq]
    rfl
  · intro hq
    rw [beforeDispatch_of_nil (s := s.dropInput.receive rx) hq, generators_wd]
    refine ⟨rfl, ?_⟩
    have htimeout := timedOut_iff t s.wd.last
    simp only [wdCheck, State.receive_wd, State.dropInput_wd, Bool.and_eq_true, Bool.not_eq_true',
      ← Bool.not_eq_true, htimeout, not_le]

/-- The command a tick's byte completes, in the words of the statements. -/
theorem frameCompletes_of_dispatched {s : State} {rx : List Byte} {i : Instr}
    (h : dispatched (s.dropInput.receive rx).dec (s.dropInput.receive rx).rxq = some i) :
    s.frameCompletes rx i.controlId i.value := dispatched_eq_some_iff.1 h

/-- Settles O31: without a command, a tick is the generators and the byte, which write none of these registers. -/
theorem configurationChangesOnlyByCommands : Obligations.ConfigurationChangesOnlyByCommands := by
  intro s s' t rx hin h hchanged
  cases hd : dispatched (s.dropInput.receive rx).dec (s.dropInput.receive rx).rxq with
  | some i => exact ⟨i, frameCompletes_of_dispatched hd⟩
  | none =>
    rw [eq_iterated_of_step hin h, iterated, hd] at hchanged
    refine absurd ⟨hostConfig_beforeDispatch t _, ?_, ?_, ?_, ?_, ?_⟩ hchanged
    all_goals
      simp only [runDispatched, beforeDispatch_env, beforeDispatch_osc0, beforeDispatch_osc1,
        beforeDispatch_sync, beforeDispatch_transport]
      rfl

/-! ## The epochs over one tick -/

/-- A channel over a tick: what moves its epoch is a completed frame of SONG_MEASURE whose gate passes. -/
theorem tick_tEpoch_of_ne {s : State} {rx : List Byte} {c : Channel} {t : Timestamp} {o : OscRegs}
    (h : ((dispatched s.dec (s.rxq ++ rx)).elim o fun i => commandOsc c i t o).tEpoch ≠ o.tEpoch) :
    o.mode = .tempo ∧ ((dispatched s.dec (s.rxq ++ rx)).elim o fun i => commandOsc c i t o).tEpoch = t ∧
      ∃ v, v ≠ 0 ∧ s.frameCompletes rx 251 v ∧ 1000000 * (v.toNat - 1) / rateE5 o.rateIdx % 10 = 0 := by
  cases hd : dispatched s.dec (s.rxq ++ rx) with
  | none =>
    rw [hd] at h
    exact absurd rfl h
  | some i =>
    rw [hd] at h
    obtain ⟨v, hv, rfl, hmode, hgate, ht⟩ := commandOsc_tEpoch_of_ne h
    exact ⟨hmode, ht, v, hv, dispatched_eq_some_iff.1 hd, (measureGate_iff v _).1 hgate⟩

/-- The same of the sync generator. -/
theorem tick_epoch_of_ne {s : State} {rx : List Byte} {t : Timestamp} {y : SyncRegs}
    (h : ((dispatched s.dec (s.rxq ++ rx)).elim y fun i => commandSync i t y).epoch ≠ y.epoch) :
    y.mode = .tempo ∧ ((dispatched s.dec (s.rxq ++ rx)).elim y fun i => commandSync i t y).epoch = t ∧
      ∃ v, v ≠ 0 ∧ s.frameCompletes rx 251 v ∧ 1000000 * (v.toNat - 1) / rateE5 y.rateIdx % 10 = 0 := by
  cases hd : dispatched s.dec (s.rxq ++ rx) with
  | none =>
    rw [hd] at h
    exact absurd rfl h
  | some i =>
    rw [hd] at h
    obtain ⟨v, hv, rfl, hmode, hgate, ht⟩ := commandSync_epoch_of_ne h
    exact ⟨hmode, ht, v, hv, dispatched_eq_some_iff.1 hd, (measureGate_iff v _).1 hgate⟩

/-- Settles O14: sub-steps 1 to 6 write no epoch, so what moves one is the command the byte completes, and of the
commands only SONG_MEASURE does. -/
theorem onlySongMeasureMovesEpochs : Obligations.OnlySongMeasureMovesEpochs := by
  constructor
  · intro s s' t rx hin h
    rw [eq_iterated_of_step hin h, iterated_osc0, iterated_osc1, iterated_sync]
    exact ⟨tick_tEpoch_of_ne, tick_tEpoch_of_ne, tick_epoch_of_ne⟩
  · intro i s s' h
    rw [eq_afterCommand_of_exec h]
    refine ⟨fun hne => ?osc0, fun hne => ?osc1, fun hne => ?sync⟩
    case osc0 | osc1 =>
      obtain ⟨v, hv, hi, hmode, -, ht⟩ := commandOsc_tEpoch_of_ne hne
      exact ⟨⟨v, hv, hi⟩, hmode, ht⟩
    case sync =>
      obtain ⟨v, hv, hi, hmode, -, ht⟩ := commandSync_epoch_of_ne hne
      exact ⟨⟨v, hv, hi⟩, hmode, ht⟩

end Sys2Proof.Proofs
end

section
/-! Proofs for 45_lfo_phase.md, 47_sync_clock.md and 48_output_mixer.md: the accumulators over ticks and runs of ticks,
the phase of a channel, the square wave of a phase, and the outputs made from them. -/

namespace Sys2Proof.Proofs

open Sys2Proof.Machine

/-! ## The accumulators -/

theorem generators_osc0_acc_toNat (t : Timestamp) (s : State) :
    (generators t s).osc0.acc.toNat =
      (s.osc0.acc.toNat + (elapsed t s.tLast).toNat * s.osc0.freq100.toNat) % 100000000 :=
  accNext_toNat _ _ _

theorem generators_osc1_acc_toNat (t : Timestamp) (s : State) :
    (generators t s).osc1.acc.toNat =
      (s.osc1.acc.toNat + (elapsed t s.tLast).toNat * s.osc1.freq100.toNat) % 100000000 :=
  accNext_toNat _ _ _

/-- Settles O35: no command writes an accumulator or `T_LAST`, so both stand as sub-steps 1 and 2 left them. -/
theorem everyIterationAdvancesTheAccumulators : Obligations.EveryIterationAdvancesTheAccumulators := by
  intro s s' t rx hin h
  have helapsed : (elapsed t s.tLast).toNat = (2 ^ 32 + t.toNat - s.tLast.toNat) % 2 ^ 32 := by
    have hlast := s.tLast.isLt
    rw [elapsed_toNat]
    omega
  rw [eq_iterated_of_step hin h, iterated]
  simp only [runDispatched_tLast, runDispatched_osc0_acc, runDispatched_osc1_acc, beforeDispatch_tLast,
    beforeDispatch_osc0, beforeDispatch_osc1, generators_osc0_acc_toNat, generators_osc1_acc_toNat,
    State.receive_osc0, State.receive_osc1, State.receive_tLast, State.dropInput_osc0, State.dropInput_osc1,
    State.dropInput_tLast, helapsed, and_self]

/-- Between timestamps that do not decrease the elapsed time is their difference. -/
theorem elapsed_toNat_of_le {a b : Timestamp} (h : b.toNat ≤ a.toNat) : (elapsed a b).toNat = a.toNat - b.toNat := by
  have ha := a.isLt
  rw [elapsed_toNat]
  omega

/-- A tick without a byte runs sub-steps 1 to 6 and takes its input away. -/
theorem step_of_quiet_tick {s : State} {t : Timestamp} {later : List Input} (hq : s.rxq = [])
    (hin : s.inputs = .tick t [] :: later) : step s = .next (generators t (s.dropInput.receive [])) := by
  rw [step_tick (State.nextInput_cons hin), iterate_nil (by simp [hq])]

/-- Advancing by `a` and then by `b` is advancing by `a + b`: the wrap loses nothing. -/
theorem wrap_add_mul_add (acc a b f m : Nat) : ((acc + a * f) % m + b * f) % m = (acc + (a + b) * f) % m := by
  rw [Nat.mod_add_mod, Nat.add_assoc, ← Nat.add_mul]

/-- Timestamps that never decrease end at or after the first. -/
theorem toNat_le_getLast {t : Timestamp} {ts : List Timestamp}
    (h : List.IsChain (fun a b : Timestamp => a.toNat ≤ b.toNat) (t :: ts)) :
    t.toNat ≤ ((t :: ts).getLast (by simp)).toNat := by
  have : IsTrans Timestamp fun a b => a.toNat ≤ b.toNat := ⟨fun _ _ _ => Nat.le_trans⟩
  have hfirst := (List.pairwise_cons.1 (List.isChain_iff_pairwise.1 h)).1
  rcases List.mem_cons.1 (List.getLast_mem (List.cons_ne_nil t ts)) with hlast | hlast
  · rw [hlast]
  · exact hfirst _ hlast

/-- Settles O36, by induction on the ticks: the elapsed times between them add up. -/
theorem spacingDoesNotAffectThePhase : Obligations.SpacingDoesNotAffectThePhase := by
  intro ts
  induction ts with
  | nil =>
    intro s s' hq hin hchain h0 h1 hrun
    cases hrun
    simp [Nat.mod_eq_of_lt h0, Nat.mod_eq_of_lt h1]
  | cons t ts ih =>
    intro s s' hq hin hchain h0 h1 hrun
    obtain ⟨hfirst, hrest⟩ := List.isChain_cons_cons.1 hchain
    rw [List.length_cons, core_run_next _ (step_of_quiet_tick hq hin)] at hrun
    obtain ⟨hacc0, hacc1, hlast⟩ := ih (generators t (s.dropInput.receive [])) s' (by simp [hq]) (by simp [hin])
      hrest (by rw [generators_osc0_acc_toNat]; exact Nat.mod_lt _ (by norm_num))
      (by rw [generators_osc1_acc_toNat]; exact Nat.mod_lt _ (by norm_num)) hrun
    have hle := toNat_le_getLast hrest
    have htotal : s'.tLast.toNat - s.tLast.toNat =
        (t.toNat - s.tLast.toNat) + (s'.tLast.toNat - t.toNat) := by
      rw [hlast]
      simp only [generators_tLast] at hle ⊢
      omega
    refine ⟨?_, ?_, hlast⟩
    · rw [hacc0, generators_osc0_acc_toNat, htotal, ← wrap_add_mul_add, ← elapsed_toNat_of_le hfirst]
      rfl
    · rw [hacc1, generators_osc1_acc_toNat, htotal, ← wrap_add_mul_add, ← elapsed_toNat_of_le hfirst]
      rfl

/-! ## The phase of a channel -/

/-- Settles O37: `frac` takes away the whole cycles, and 360 units of the offset are one of them. -/
theorem oscPhaseIsWrapped : Obligations.OscPhaseIsWrapped := by
  intro t bpm10 o
  refine ⟨frac_nonneg _, frac_lt_one _, fun hmode => ?_, fun hmode => ?_, fun n hn => ?_⟩
  · refine ⟨⌊oscBase t bpm10 o + (o.phaseNum.toInt : ℚ) / 360⌋, ?_⟩
    rw [oscPhase, frac_eq_fract, Int.fract_add_floor, oscBase, hmode]
    norm_num
  · refine ⟨⌊oscBase t bpm10 o + (o.phaseNum.toInt : ℚ) / 360⌋, ?_⟩
    rw [oscPhase, frac_eq_fract, Int.fract_add_floor, oscBase, hmode]
    simp only [tempoCycles_formula]
  · obtain ⟨k, hk⟩ := Int.dvd_of_emod_eq_zero hn
    have hoffset : (n.toInt : ℚ) / 360 = (o.phaseNum.toInt : ℚ) / 360 + k := by
      have hn' : (n.toInt : ℚ) = o.phaseNum.toInt + 360 * k := by exact_mod_cast (by omega : n.toInt = _)
      rw [hn']
      ring
    have hbase : oscBase t bpm10 { o with phaseNum := n } = oscBase t bpm10 o := rfl
    simp only [oscPhase, frac_eq_fract, hbase, hoffset, ← add_assoc, Int.fract_add_intCast]

/-! ## The square wave of a phase -/

/-- Half up, then the parity: a phase from 0 on is on the high half of its cycle. -/
theorem odd_floor_iff (ph : ℚ) : odd ⌊2 * ph + 1 / 2⌋ = true ↔ 1 / 4 ≤ Int.fract ph ∧ Int.fract ph < 3 / 4 := by
  have hsplit : 2 * ph + 1 / 2 = (2 * Int.fract ph + 1 / 2) + ((2 * ⌊ph⌋ : Int) : ℚ) := by
    have hph := Int.floor_add_fract ph
    push_cast
    linarith
  have h0 := Int.fract_nonneg ph
  have h1 := Int.fract_lt_one ph
  have hfloor0 : 0 ≤ ⌊2 * Int.fract ph + 1 / 2⌋ := Int.floor_nonneg.2 (by linarith)
  have hfloor2 : ⌊2 * Int.fract ph + 1 / 2⌋ < 3 := Int.floor_lt.2 (by push_cast; linarith)
  have hone : ⌊2 * Int.fract ph + 1 / 2⌋ = 1 ↔ 1 / 4 ≤ Int.fract ph ∧ Int.fract ph < 3 / 4 := by
    rw [Int.floor_eq_iff]
    push_cast
    constructor <;> rintro ⟨hlo, hhi⟩ <;> constructor <;> linarith
  rw [hsplit, Int.floor_add_intCast, odd_iff, ← hone]
  omega

theorem odd_neg (n : Int) : odd (-n) = odd n := by
  rw [Bool.eq_iff_iff, odd_iff, odd_iff]
  omega

theorem phaseLevel_of_nonneg {ph : ℚ} (h : 0 ≤ ph) :
    phaseLevel ph = true ↔ 1 / 4 ≤ Int.fract ph ∧ Int.fract ph < 3 / 4 := by
  rw [phaseLevel, rnd, if_pos (by linarith), odd_floor_iff]

/-- Below 0 the rounding is the mirror image, and with it the sides of the two edges. -/
theorem phaseLevel_of_neg {ph : ℚ} (h : ph < 0) :
    phaseLevel ph = true ↔ 1 / 4 < Int.fract ph ∧ Int.fract ph ≤ 3 / 4 := by
  have hmirror : -(2 * ph) = 2 * -ph := by ring
  rw [phaseLevel, rnd, if_neg (by linarith), odd_neg, hmirror, odd_floor_iff]
  by_cases hzero : Int.fract ph = 0
  · rw [Int.fract_neg_eq_zero.2 hzero, hzero]
    norm_num
  · rw [Int.fract_neg hzero]
    constructor <;> rintro ⟨hlo, hhi⟩ <;> constructor <;> linarith

/-- Settles O38: one law on each side of 0. -/
theorem phaseLevelIsSquareWave : Obligations.PhaseLevelIsSquareWave :=
  fun _ => ⟨phaseLevel_of_nonneg, phaseLevel_of_neg⟩

/-- Settles O50: the phase is its own fractional part, and the LED is its level in every case of the mixer. -/
theorem phaseLed : Obligations.PhaseLed := by
  intro t bpm10 envOut o
  have h0 : 0 ≤ oscPhase t bpm10 o := frac_nonneg _
  have hfract : Int.fract (oscPhase t bpm10 o) = oscPhase t bpm10 o := Int.fract_eq_self.2 ⟨h0, frac_lt_one _⟩
  have hlevel := phaseLevel_of_nonneg h0
  rwa [hfract] at hlevel

/-! ## The rounding in whole numbers -/

/-- Half up of a doubled quotient of whole numbers. -/
theorem floor_two_mul_div_add_half (n : Int) {m : Nat} (hm : 0 < m) :
    ⌊2 * ((n : ℚ) / m) + 1 / 2⌋ = (4 * n + m) / (2 * m) := by
  have hm' : (m : ℚ) ≠ 0 := by positivity
  have hquot : 2 * ((n : ℚ) / m) + 1 / 2 = ((4 * n + m : Int) : ℚ) / ((2 * m : Nat) : ℚ) := by
    push_cast
    field_simp
    ring
  rw [hquot, Rat.floor_intCast_div_natCast]
  push_cast
  rfl

theorem rnd_of_nonneg {n : Int} (hn : 0 ≤ n) {m : Nat} (hm : 0 < m) :
    rnd (2 * ((n : ℚ) / m)) = (4 * n + m) / (2 * m) := by
  have hpos : (0 : ℚ) ≤ 2 * ((n : ℚ) / m) := by positivity
  rw [rnd, if_pos hpos, floor_two_mul_div_add_half n hm]

/-- Settles O39: the rounding of a negative number is the mirror image, and 0 rounds to 0. -/
theorem roundingIntegerForm : Obligations.RoundingIntegerForm := by
  intro n m hm
  rcases lt_trichotomy n 0 with hn | rfl | hn
  · have hneg : 2 * ((n : ℚ) / m) < 0 := by
      have hn' : (n : ℚ) < 0 := by exact_mod_cast hn
      have hm' : (0 : ℚ) < m := by exact_mod_cast hm
      have := div_neg_of_neg_of_pos hn' hm'
      linarith
    have hmirror : -(2 * ((n : ℚ) / m)) = 2 * (((-n : Int) : ℚ) / m) := by
      push_cast
      ring
    rw [rnd, if_neg (not_le.2 hneg), hmirror, floor_two_mul_div_add_half _ hm, Int.sign_eq_neg_one_of_neg hn,
      Int.ofNat_natAbs_of_nonpos hn.le]
    ring
  · simp [rnd]
    norm_num
  · rw [rnd_of_nonneg hn.le hm, Int.sign_eq_one_of_pos hn, Int.natAbs_of_nonneg hn.le, one_mul]

/-! ## The sync output -/

theorem iterated_sync_led (t : Timestamp) (s : State) :
    (iterated t s).sync.led = phaseLevel (syncPhaseAt t s.transport.bpm10 s.sync) := by
  simp [iterated, syncRegsAt]

theorem iterated_sync_out (t : Timestamp) (s : State) :
    (iterated t s).sync.out = phaseLevel (syncPhaseAt t s.transport.bpm10 s.sync) := by
  simp [iterated, syncRegsAt]

/-- Settles O40: the level of a phase that is a quotient of whole numbers, by the rounding's integer form. -/
theorem freeSyncOutput : Obligations.FreeSyncOutput := by
  intro t s s' hmode h
  have hphase : syncPhaseAt t s.transport.bpm10 s.sync =
      (((t.toNat * s.sync.freq100.toNat : Nat) : Int) : ℚ) / (100000000 : Nat) := by
    simp only [syncPhaseAt, hmode]
    push_cast
    rfl
  have hround := rnd_of_nonneg (Int.natCast_nonneg (t.toNat * s.sync.freq100.toNat)) (m := 100000000) (by norm_num)
  rw [eq_iterated_of_iterate h, iterated_sync_led, iterated_sync_out]
  refine ⟨rfl, ?_⟩
  rw [hphase, phaseLevel, hround, odd_iff]
  omega

/-- Settles O41: the sync phase in tempo-locked mode, as one quotient. -/
theorem tempoSyncOutput : Obligations.TempoSyncOutput := by
  intro t s s' hmode h
  rw [eq_iterated_of_iterate h, iterated_sync_led, iterated_sync_out, ← tempoCycles_formula, syncPhaseAt, hmode]
  exact ⟨rfl, rfl⟩

end Sys2Proof.Proofs
end

section
/-! Proofs for 46_adsr.md: the level of each stage as a function of the stage, the table of the stages an update ends
in, the two events, and the transitions of the envelope over every tick. -/

namespace Sys2Proof.Proofs

open Sys2Proof.Machine

/-! ## The level of a stage -/

/-- The level of the stage `st` dated `ts` at the time `t` (R159, R160, R161, R165). -/
def stageLevel (t : Timestamp) (e : EnvRegs) (st : EnvState) (ts : Timestamp) : Int :=
  match st with
  | .idle => 0
  | .attack => attackLevel e.lStage (curveA (stageFraction (elapsed t ts) e.attackUs))
  | .decay => decayLevel e.sustain (curveD (stageFraction (elapsed t ts) e.decayUs))
  | .sustain => sustainLevel e.sustain
  | .release => releaseLevel e.lStage (curveR (stageFraction (elapsed t ts) e.releaseUs))

theorem tickDecay_lvl (t ts : Timestamp) (e : EnvRegs) :
    (tickDecay t ts e).lvl = stageLevel t e (tickDecay t ts e).state (tickDecay t ts e).tStage := by
  unfold tickDecay
  split <;> rfl

/-- An update's level is that of the stage it ends in, from the date it leaves. -/
theorem envEval_lvl (t : Timestamp) (e : EnvRegs) :
    (envEval t e).lvl = stageLevel t e (envEval t e).state (envEval t e).tStage := by
  unfold envEval
  cases e.state with
  | idle => rfl
  | attack =>
    simp only [tickAttack]
    split
    · rfl
    · exact tickDecay_lvl t _ e
  | decay => exact tickDecay_lvl t _ e
  | sustain => rfl
  | release =>
    simp only [tickRelease]
    split <;> rfl

/-- With the sustain register in range every stage's level is a level. -/
theorem stageLevel_range (t : Timestamp) {e : EnvRegs} (h : e.sustain.toNat ≤ 65520) (st : EnvState)
    (ts : Timestamp) : 0 ≤ stageLevel t e st ts ∧ stageLevel t e st ts ≤ 4095 := by
  cases st with
  | idle => exact ⟨le_rfl, by norm_num [stageLevel]⟩
  | attack =>
    have hrange := attackLevel_range e.lStage (curveOf_nonneg Config.attackShape
      (stageFraction (elapsed t ts) e.attackUs)) (curveOf_le_one _ _)
    exact ⟨(Int.natCast_nonneg _).trans hrange.1, hrange.2⟩
  | decay => exact decayLevel_range h (curveOf_nonneg _ _) (curveOf_le_one _ _)
  | sustain =>
    simp only [stageLevel, sustainLevel]
    omega
  | release =>
    have hrange := releaseLevel_range e.lStage (curveOf_nonneg Config.releaseShape
      (stageFraction (elapsed t ts) e.releaseUs)) (curveOf_le_one _ _)
    have hlevel := e.lStage.isLt
    exact ⟨hrange.1, hrange.2.trans (by omega)⟩

theorem envEval_lvl_range (t : Timestamp) {e : EnvRegs} (h : e.sustain.toNat ≤ 65520) :
    0 ≤ (envEval t e).lvl ∧ (envEval t e).lvl ≤ 4095 := by
  rw [envEval_lvl]
  exact stageLevel_range t h _ _

/-- `ENV_OUT` holds the level whole. -/
theorem envTickRegs_out_toNat (t : Timestamp) {e : EnvRegs} (h : e.sustain.toNat ≤ 65520) :
    ((envTickRegs t e).out.toNat : Int) =
      stageLevel t e (envTickRegs t e).state (envTickRegs t e).tStage := by
  obtain ⟨h0, h1⟩ := envEval_lvl_range t h
  exact (levelBits_toNat h0 h1).trans (envEval_lvl t e)

/-- Settles O42: the level of the stage the update ends in, which is in range and fits `ENV_OUT`. -/
theorem envelopeLevelInRange : Obligations.EnvelopeLevelInRange := by
  intro t e h
  obtain ⟨h0, h1⟩ := envEval_lvl_range t h
  have hout := envTickRegs_out_toNat t h
  refine ⟨h0, h1, levelBits_toNat h0 h1, fun hst => ?attack, fun hst => ?decay, fun hst => ?sustain,
    fun hst => ?release, fun hst => ?idle⟩
  case sustain =>
    rw [hst] at hout
    exact Int.ofNat_inj.1 hout
  case idle =>
    rw [hst] at hout
    exact BitVec.eq_of_toNat_eq (Int.ofNat_inj.1 hout)
  all_goals
    rw [hst] at hout
    exact hout

/-! ## Inside a stage -/

theorem envEval_of_attack {t : Timestamp} {e : EnvRegs} (hst : e.state = .attack)
    (h : (t - e.tStage).toNat < e.attackUs.toNat) :
    envEval t e = { state := .attack, tStage := e.tStage, lvl := stageLevel t e .attack e.tStage } := by
  rw [envEval, hst]
  exact tickAttack_of_lt h

theorem envEval_of_decay {t : Timestamp} {e : EnvRegs} (hst : e.state = .decay)
    (h : (t - e.tStage).toNat < e.decayUs.toNat) :
    envEval t e = { state := .decay, tStage := e.tStage, lvl := stageLevel t e .decay e.tStage } := by
  rw [envEval, hst]
  exact tickDecay_of_lt h

theorem envEval_of_release {t : Timestamp} {e : EnvRegs} (hst : e.state = .release)
    (h : (t - e.tStage).toNat < e.releaseUs.toNat) :
    envEval t e = { state := .release, tStage := e.tStage, lvl := stageLevel t e .release e.tStage } := by
  rw [envEval, hst]
  exact tickRelease_of_lt h

theorem stageFraction_mono {d d' : BitVec 32} (h : d.toNat ≤ d'.toNat) (T : BitVec 32) :
    stageFraction d T ≤ stageFraction d' T :=
  div_le_div_of_nonneg_right (by exact_mod_cast h) (by positivity)

theorem attackLevel_mono (L : Level) {y y' : ℚ} (h : y ≤ y') : attackLevel L y ≤ attackLevel L y' := by
  have hL : (L.toNat : ℚ) ≤ 4095 := by
    have := L.isLt
    exact_mod_cast (by omega : L.toNat ≤ 4095)
  unfold attackLevel
  gcongr

theorem decayLevel_anti {S : BitVec 16} (hS : S.toNat ≤ 65520) {y y' : ℚ} (h : y ≤ y') :
    decayLevel S y' ≤ decayLevel S y := by
  have hS' : (S.toNat : ℚ) ≤ 65520 := by exact_mod_cast hS
  unfold decayLevel
  gcongr
  linarith

theorem releaseLevel_anti (L : Level) {y y' : ℚ} (h : y ≤ y') : releaseLevel L y' ≤ releaseLevel L y := by
  unfold releaseLevel
  gcongr

/-- Settles O43: each level is monotone in the completed fraction, and the fraction in the elapsed time (K3). -/
theorem envelopeStagesAreMonotone : Obligations.EnvelopeStagesAreMonotone := by
  intro e t t' hS hle
  refine ⟨fun hst hlt => ?attack, fun hst hlt => ?decay, fun hst hlt => ?release⟩
  case attack =>
    rw [envEval_of_attack hst hlt, envEval_of_attack hst (hle.trans_lt hlt)]
    exact attackLevel_mono _ (curveOf_mono _ (stageFraction_mono hle _))
  case decay =>
    rw [envEval_of_decay hst hlt, envEval_of_decay hst (hle.trans_lt hlt)]
    exact decayLevel_anti hS (curveOf_mono _ (stageFraction_mono hle _))
  case release =>
    rw [envEval_of_release hst hlt, envEval_of_release hst (hle.trans_lt hlt)]
    exact releaseLevel_anti _ (curveOf_mono _ (stageFraction_mono hle _))

/-! ## The events -/

theorem stageFraction_elapsed_self (t : Timestamp) (T : BitVec 32) : stageFraction (elapsed t t) T = 0 := by
  simp [stageFraction]

/-- A stage that has just begun stands at its start level (K1). -/
theorem stageLevel_attack_start (t : Timestamp) (e : EnvRegs) : stageLevel t e .attack t = e.lStage.toNat := by
  rw [stageLevel, stageFraction_elapsed_self, curveA, curveOf_zero]
  simp [attackLevel]

theorem stageLevel_release_start (t : Timestamp) (e : EnvRegs) : stageLevel t e .release t = e.lStage.toNat := by
  rw [stageLevel, stageFraction_elapsed_self, curveR, curveOf_zero]
  simp [releaseLevel]

theorem levelBits_natCast_toNat (L : Level) : levelBits (L.toNat : Int) = L := by
  have hL := L.isLt
  have hbits := levelBits_toNat (Int.natCast_nonneg L.toNat) (by omega)
  exact BitVec.eq_of_toNat_eq (Int.ofNat_inj.1 hbits)

theorem noteOn_state (t : Timestamp) (e : EnvRegs) : (noteOn t e).state = .attack := rfl

/-- Settles O44: the new stage starts from the output and has made no part of its change yet. -/
theorem eventsDoNotJump : Obligations.EventsDoNotJump := by
  intro t e
  refine ⟨fun hpos => ?_, fun hgate hpos => ?_⟩
  · have heval := envEval_of_attack (t := t) (noteOn_state t e) (by simpa [noteOn] using hpos)
    rw [envTickRegs, heval]
    refine ⟨?_, rfl⟩
    exact (congrArg levelBits (stageLevel_attack_start t _)).trans (levelBits_natCast_toNat e.out)
  · rw [noteOff_open hgate]
    have heval := envEval_of_release (t := t) (e := { e with lStage := e.out, tStage := t, state := .release })
      rfl (by simpa using hpos)
    rw [envTickRegs, heval]
    refine ⟨?_, rfl⟩
    exact (congrArg levelBits (stageLevel_release_start t _)).trans (levelBits_natCast_toNat e.out)

theorem sustainLevel_range (S : BitVec 16) : 0 ≤ sustainLevel S ∧ sustainLevel S ≤ 4095 := by
  have hS := S.isLt
  unfold sustainLevel
  omega

/-- Settles O45: no elapsed time is below 0, so every stage that has a length is over in the first update. -/
theorem zeroLengthStagesPassAtOnce : Obligations.ZeroLengthStagesPassAtOnce := by
  intro t t' e ha hd hr
  have hsustain : envEval t' (noteOn t e) = tickSustain (t + e.attackUs) (noteOn t e) := by
    rw [envEval, noteOn_state]
    exact (tickAttack_of_le (by simp [noteOn, ha])).trans (tickDecay_of_le (by simp [noteOn, hd]))
  obtain ⟨h0, h1⟩ := sustainLevel_range e.sustain
  refine ⟨?_, ?_, fun hgate => ?_⟩
  · rw [envTickRegs, hsustain]
    rfl
  · rw [envTickRegs, hsustain]
    exact Int.ofNat_inj.1 (levelBits_toNat h0 h1)
  · rw [noteOff_open hgate]
    have hidle := tickRelease_of_le (t := t') (e := { e with lStage := e.out, tStage := t, state := .release })
      (by simp [hr])
    exact ⟨congrArg EnvUpdate.state hidle, congrArg (fun u : EnvUpdate => levelBits u.lvl) hidle⟩

/-! ## The stage an update ends in -/

/-- The rows of an update's table (46_adsr.md section 2): the stage it ends in and that stage's date. -/
inductive StageAfter (t : Timestamp) (e : EnvRegs) : EnvState → Timestamp → Prop
  | idle (h : e.state = .idle) : StageAfter t e .idle e.tStage
  | attack (h : e.state = .attack) (hlt : (t - e.tStage).toNat < e.attackUs.toNat) :
      StageAfter t e .attack e.tStage
  | attackToDecay (h : e.state = .attack) (hle : e.attackUs.toNat ≤ (t - e.tStage).toNat)
      (hlt : (t - (e.tStage + e.attackUs)).toNat < e.decayUs.toNat) :
      StageAfter t e .decay (e.tStage + e.attackUs)
  | attackToSustain (h : e.state = .attack) (hle : e.attackUs.toNat ≤ (t - e.tStage).toNat)
      (hle' : e.decayUs.toNat ≤ (t - (e.tStage + e.attackUs)).toNat) :
      StageAfter t e .sustain (e.tStage + e.attackUs)
  | decay (h : e.state = .decay) (hlt : (t - e.tStage).toNat < e.decayUs.toNat) :
      StageAfter t e .decay e.tStage
  | decayToSustain (h : e.state = .decay) (hle : e.decayUs.toNat ≤ (t - e.tStage).toNat) :
      StageAfter t e .sustain e.tStage
  | sustain (h : e.state = .sustain) : StageAfter t e .sustain e.tStage
  | release (h : e.state = .release) (hlt : (t - e.tStage).toNat < e.releaseUs.toNat) :
      StageAfter t e .release e.tStage
  | releaseToIdle (h : e.state = .release) (hle : e.releaseUs.toNat ≤ (t - e.tStage).toNat) :
      StageAfter t e .idle e.tStage

/-- Every update is a row of the table. -/
theorem envEval_stageAfter (t : Timestamp) (e : EnvRegs) :
    StageAfter t e (envEval t e).state (envEval t e).tStage := by
  unfold envEval
  cases hst : e.state with
  | idle => exact .idle hst
  | attack =>
    rcases lt_or_ge (t - e.tStage).toNat e.attackUs.toNat with hlt | hle
    · simp only [tickAttack_of_lt hlt]
      exact .attack hst hlt
    · simp only [tickAttack_of_le hle]
      rcases lt_or_ge (t - (e.tStage + e.attackUs)).toNat e.decayUs.toNat with hlt | hle'
      · simp only [tickDecay_of_lt hlt]
        exact .attackToDecay hst hle hlt
      · simp only [tickDecay_of_le hle']
        exact .attackToSustain hst hle hle'
  | decay =>
    rcases lt_or_ge (t - e.tStage).toNat e.decayUs.toNat with hlt | hle
    · simp only [tickDecay_of_lt hlt]
      exact .decay hst hlt
    · simp only [tickDecay_of_le hle]
      exact .decayToSustain hst hle
  | sustain => exact .sustain hst
  | release =>
    rcases lt_or_ge (t - e.tStage).toNat e.releaseUs.toNat with hlt | hle
    · simp only [tickRelease_of_lt hlt]
      exact .release hst hlt
    · simp only [tickRelease_of_le hle]
      exact .releaseToIdle hst hle

section Table

variable {t : Timestamp} {e : EnvRegs} {st : EnvState} {ts : Timestamp}

/-! The table read by column: which row ends in a given stage, and which one moves the date. -/

theorem StageAfter.attack_iff (h : StageAfter t e st ts) :
    st = .attack ↔ e.state = .attack ∧ (t - e.tStage).toNat < e.attackUs.toNat := by
  cases h <;> grind

theorem StageAfter.decay_iff (h : StageAfter t e st ts) :
    st = .decay ↔
      (e.state = .attack ∧ e.attackUs.toNat ≤ (t - e.tStage).toNat ∧
          (t - (e.tStage + e.attackUs)).toNat < e.decayUs.toNat) ∨
        (e.state = .decay ∧ (t - e.tStage).toNat < e.decayUs.toNat) := by
  cases h <;> grind

theorem StageAfter.sustain_iff (h : StageAfter t e st ts) :
    st = .sustain ↔
      (e.state = .attack ∧ e.attackUs.toNat ≤ (t - e.tStage).toNat ∧
          e.decayUs.toNat ≤ (t - (e.tStage + e.attackUs)).toNat) ∨
        (e.state = .decay ∧ e.decayUs.toNat ≤ (t - e.tStage).toNat) ∨
        e.state = .sustain := by
  cases h <;> grind

theorem StageAfter.release_iff (h : StageAfter t e st ts) :
    st = .release ↔ e.state = .release ∧ (t - e.tStage).toNat < e.releaseUs.toNat := by
  cases h <;> grind

theorem StageAfter.idle_iff (h : StageAfter t e st ts) :
    st = .idle ↔
      e.state = .idle ∨ (e.state = .release ∧ e.releaseUs.toNat ≤ (t - e.tStage).toNat) := by
  cases h <;> grind

theorem StageAfter.date_of_attack_over (h : StageAfter t e st ts)
    (hover : e.state = .attack ∧ e.attackUs.toNat ≤ (t - e.tStage).toNat) : ts = e.tStage + e.attackUs := by
  cases h <;> grind

theorem StageAfter.date_of_not_attack_over (h : StageAfter t e st ts)
    (hover : ¬ (e.state = .attack ∧ e.attackUs.toNat ≤ (t - e.tStage).toNat)) : ts = e.tStage := by
  cases h <;> grind

end Table

/-! ## The transitions over one tick -/

/-- The dispatch of a command or of none is a note-on, a note-off, or leaves the stage, its date and its level. -/
theorem elim_commandEnv_cases (c : Option Instr) (t : Timestamp) (e : EnvRegs) :
    (c = some (.envTrigger 1) ∧ (c.elim e fun i => commandEnv i t e) = noteOn t e) ∨
    (c = some (.envTrigger 0) ∧ (c.elim e fun i => commandEnv i t e) = noteOff t e) ∨
    (c ≠ some (.envTrigger 1) ∧ c ≠ some (.envTrigger 0) ∧
      (c.elim e fun i => commandEnv i t e).state = e.state ∧
      (c.elim e fun i => commandEnv i t e).tStage = e.tStage ∧
      (c.elim e fun i => commandEnv i t e).lStage = e.lStage) := by
  cases c with
  | none => simp
  | some i =>
    cases i with
    | envTrigger v =>
      by_cases h1 : v = 1
      · subst h1
        exact .inl ⟨rfl, rfl⟩
      · by_cases h0 : v = 0
        · subst h0
          exact .inr (.inl ⟨rfl, rfl⟩)
        · have hnothing : commandEnv (.envTrigger v) t e = e := (if_neg h1).trans (if_neg h0)
          rw [Option.elim_some, hnothing]
          exact .inr (.inr ⟨fun hc => h1 (by cases hc; rfl), fun hc => h0 (by cases hc; rfl), rfl, rfl, rfl⟩)
    | _ => exact .inr (.inr ⟨nofun, nofun, rfl, rfl, rfl⟩)

/-- Settles O46: the update by its table, then the event the tick's byte completes, if any. -/
theorem envelopeTransitions : Obligations.EnvelopeTransitions := by
  intro s s' t rx on off hin h hon hoff
  have htable : StageAfter t s.env (envTickRegs t s.env).state (envTickRegs t s.env).tStage :=
    envEval_stageAfter t s.env
  have hgate : gateOpen (envTickRegs t s.env).state = gateOpen s.env.state := gateOpen_envEval t s.env
  have hon' : on ↔ dispatched s.dec (s.rxq ++ rx) = some (.envTrigger 1) :=
    hon.trans (dispatched_eq_some_iff (i := .envTrigger 1)).symm
  have hoff' : off ↔ dispatched s.dec (s.rxq ++ rx) = some (.envTrigger 0) :=
    hoff.trans (dispatched_eq_some_iff (i := .envTrigger 0)).symm
  have henv : s'.env = (dispatched s.dec (s.rxq ++ rx)).elim (envTickRegs t s.env) fun i =>
      commandEnv i t (envTickRegs t s.env) := by
    rw [eq_iterated_of_step hin h]
    exact iterated_env t _
  rcases elim_commandEnv_cases (dispatched s.dec (s.rxq ++ rx)) t (envTickRegs t s.env) with
    ⟨hc, he⟩ | ⟨hc, he⟩ | ⟨hne1, hne0, hstate, hdate, hlevel⟩
  · -- a note-on
    have hyes : on := hon'.2 hc
    have hno : ¬ off := by simp [hoff', hc]
    rw [he] at henv
    simp [henv, hyes, hno, noteOn]
  · -- a note-off, which an open gate makes a release and a closed one ignores
    have hno : ¬ on := by simp [hon', hc]
    have hyes : off := hoff'.2 hc
    rw [he] at henv
    cases hopen : gateOpen s.env.state with
    | true =>
      rw [hopen] at hgate
      rw [noteOff_open hgate] at henv
      have hnot : s.env.state ≠ .idle ∧ s.env.state ≠ .release := by
        rcases (gateOpen_iff _).1 hopen with hst | hst | hst <;> simp [hst]
      simp [henv, hyes, hno, hnot]
    | false =>
      rw [hopen] at hgate
      rw [noteOff_closed hgate] at henv
      rw [← henv] at htable hgate
      have hclosed := gateOpen_iff s'.env.state
      have hclosed' := gateOpen_iff s.env.state
      simp only [hgate, hopen, Bool.false_eq_true, false_iff, not_or] at hclosed hclosed'
      have hlevel : s'.env.lStage = s.env.lStage := by rw [henv]; rfl
      simp only [hno, hyes, hclosed, hclosed', hlevel, htable.release_iff, htable.idle_iff, Bool.false_eq_true,
        false_or, or_false, false_and, and_false, not_false_eq_true, not_true_eq_false, true_and, forall_const,
        false_imp_iff]
      exact htable.date_of_not_attack_over (fun h => hclosed'.1 h.1)
  · -- no event: the update alone
    have hno : ¬ on := by simpa [hon'] using hne1
    have hno' : ¬ off := by simpa [hoff'] using hne0
    rw [← henv] at hstate hdate hlevel
    rw [← hstate, ← hdate] at htable
    simp only [hno, hno', false_or, false_and, not_false_eq_true, true_and]
    refine ⟨htable.attack_iff, htable.decay_iff, htable.sustain_iff, htable.release_iff, htable.idle_iff, nofun,
      fun _ => ⟨hlevel, htable.date_of_attack_over, htable.date_of_not_attack_over⟩⟩

end Sys2Proof.Proofs
end

section
/-! Proofs for 48_output_mixer.md: the three cases of the mixer. -/

namespace Sys2Proof.Proofs

open Sys2Proof.Machine

/-! ## The cases of the mixer -/

theorem mixAmpEff_of_envDisabled {o : OscRegs} (h : o.envEn = false) (envOut : Level) :
    mixAmpEff envOut o = o.amp := by
  simp [mixAmpEff, h]

theorem mixAmpEff_of_dc {o : OscRegs} (h : o.envEn = true) (hw : o.wave = 0) (envOut : Level) :
    mixAmpEff envOut o = o.ampEff := by
  simp only [mixAmpEff, h, hw, if_true]

theorem mixAmpEff_of_periodic {o : OscRegs} (h : o.envEn = true) (hw : o.wave ≠ 0) (envOut : Level) :
    mixAmpEff envOut o = BitVec.ofInt 16 (remap envOut.toNat 0 o.amp.toNat) := by
  simp only [mixAmpEff, h, if_neg hw, if_true]

theorem mixOut_of_not_sweep {o : OscRegs} (h : ¬ (o.envEn = true ∧ o.wave = 0)) (envOut : Level) (p : ℚ) :
    mixOut envOut p o = oscSample o.wave (mixAmpEff envOut o) o.offset p := if_neg h

theorem mixOut_of_dc {o : OscRegs} (h : o.envEn = true) (hw : o.wave = 0) (envOut : Level) (p : ℚ) :
    mixOut envOut p o = levelBits (remap envOut.toNat (oscSample 0 o.ampEff o.offset p).toNat 4095) := by
  rw [mixOut, if_pos ⟨h, hw⟩, mixAmpEff_of_dc h hw]

/-- The sample of the DC waveform is the offset where property O1 settles it. -/
theorem oscSample_dc_toNat {o : BitVec 16} (h : o.toNat ≤ 4095) (a : BitVec 16) (p : ℚ) :
    (oscSample 0 a o p).toNat = o.toNat := by
  rw [oscSample_dc h, BitVec.toNat_setWidth]
  omega

/-- Settles O47: without the envelope the amplitude is the configured one, and the sample is taken with it. -/
theorem mixerWithoutEnvelope : Obligations.MixerWithoutEnvelope := by
  intro t bpm10 envOut o h
  have hamp := mixAmpEff_of_envDisabled h envOut
  have hdac : (mixRegs t bpm10 envOut o).dac = oscSample o.wave o.amp o.offset (oscPhase t bpm10 o) := by
    refine (mixOut_of_not_sweep (by simp [h]) envOut _).trans ?_
    rw [hamp]
  refine ⟨hamp, hdac, fun hw ho => ?_⟩
  rw [hdac, hw, oscSample_dc_toNat ho]

/-! ## The sweep of the DC waveform -/

/-- A remap from a level to 4095 stays between the two, so its bits hold it whole. -/
theorem levelBits_remap_toNat (x lo : Level) :
    (levelBits (remap x.toNat lo.toNat 4095)).toNat = lo.toNat + x.toNat * (4095 - lo.toNat) / 4095 := by
  have hx : x.toNat ≤ 4095 := Nat.le_of_lt_succ x.isLt
  have hlo : lo.toNat ≤ 4095 := Nat.le_of_lt_succ lo.isLt
  have hscaled : x.toNat * (4095 - lo.toNat) / 4095 ≤ 4095 - lo.toNat :=
    Nat.div_le_of_le_mul (Nat.mul_le_mul_right _ hx)
  have hbits := levelBits_toNat (n := ((lo.toNat + x.toNat * (4095 - lo.toNat) / 4095 : Nat) : Int))
    (Int.natCast_nonneg _) (by omega)
  rw [remap_toNat _ _ hlo]
  exact Int.ofNat_inj.1 hbits

/-- Settles O48: the output is the remap of the envelope onto the range from the sample to full scale. -/
theorem mixerDcSweep : Obligations.MixerDcSweep := by
  intro t bpm10 envOut o lo h hw hlo
  have hdac : (mixRegs t bpm10 envOut o).dac = levelBits (remap envOut.toNat lo.toNat 4095) := by
    rw [hlo]
    exact mixOut_of_dc h hw envOut _
  have hvalue := levelBits_remap_toNat envOut lo
  rw [← hdac] at hvalue
  have hlo' := lo.isLt
  refine ⟨mixAmpEff_of_dc h hw envOut, hvalue, by omega, fun h0 => ?_, fun h1 => ?_, fun ho => ?_⟩
  · refine BitVec.eq_of_toNat_eq ?_
    rw [hvalue, h0]
    simp
  · rw [hvalue, h1]
    omega
  · rw [hlo, oscSample_dc_toNat ho]

/-! ## The scaled amplitude of a periodic waveform -/

/-- A remap from 0 onto an amplitude stays below it, so its 16 bits hold it whole. -/
theorem ofInt_remap_zero_toNat (x : Level) (amp : BitVec 16) :
    (BitVec.ofInt 16 (remap x.toNat 0 amp.toNat)).toNat = x.toNat * amp.toNat / 4095 ∧
      x.toNat * amp.toNat / 4095 ≤ amp.toNat := by
  have hx : x.toNat ≤ 4095 := Nat.le_of_lt_succ x.isLt
  have hamp := amp.isLt
  have hscaled : x.toNat * amp.toNat / 4095 ≤ amp.toNat := Nat.div_le_of_le_mul (Nat.mul_le_mul_right _ hx)
  have hremap : remap x.toNat 0 amp.toNat = ((x.toNat * amp.toNat / 4095 : Nat) : Int) := by
    rw [remap, Int.sub_zero, Int.zero_add, ← Nat.cast_mul]
    exact (Int.tdiv_eq_ediv_of_nonneg (Int.natCast_nonneg _)).trans (by norm_cast)
  refine ⟨?_, hscaled⟩
  rw [hremap, BitVec.toNat_ofInt]
  omega

/-- Settles O49: the effective amplitude is the remap of the envelope onto the range from 0 to the configured one. -/
theorem mixerPeriodic : Obligations.MixerPeriodic := by
  intro t bpm10 envOut o h hw
  have hamp : (mixRegs t bpm10 envOut o).ampEff = BitVec.ofInt 16 (remap envOut.toNat 0 o.amp.toNat) :=
    mixAmpEff_of_periodic h hw envOut
  obtain ⟨hvalue, hle⟩ := ofInt_remap_zero_toNat envOut o.amp
  rw [← hamp] at hvalue
  refine ⟨hvalue, hvalue.trans_le hle, rfl, mixOut_of_not_sweep (fun hdc => hw hdc.2) envOut _,
    fun h0 => ?_, fun h1 => ?_⟩
  · refine BitVec.eq_of_toNat_eq ?_
    rw [hvalue, h0]
    simp
  · refine BitVec.eq_of_toNat_eq ?_
    rw [hvalue, h1]
    omega

end Sys2Proof.Proofs
end

section
/-! Proofs for 20_memory.md, 41_cmd_transport.md and 43_cmd_envelope.md: the rate table and the measure gate, the
sustain table and the command that reads it. -/

namespace Sys2Proof.Proofs

open Sys2Proof.Machine

/-! ## The rate table and the measure gate -/

/-- Settles O53: the 24 entries by evaluation, the sign of every rate by the model's law. -/
theorem rateTableHoldsTheLiterals : Obligations.RateTableHoldsTheLiterals := by
  refine ⟨?_, rateE5_pos⟩
  simp [List.range, List.range.loop, rateE5, rateTable]
  norm_num

/-- A number is in the first tenth of its unit interval exactly when the whole tenths in it end in the digit 0. -/
theorem floor_ten_mul_emod_ten_iff (x : ℚ) : ⌊10 * x⌋ % 10 = 0 ↔ Int.fract x < 1 / 10 := by
  have hsplit : 10 * x = 10 * Int.fract x + ((10 * ⌊x⌋ : Int) : ℚ) := by
    have hx := Int.floor_add_fract x
    push_cast
    linarith
  have h0 := Int.fract_nonneg x
  have h1 := Int.fract_lt_one x
  have hfloor0 : 0 ≤ ⌊10 * Int.fract x⌋ := Int.floor_nonneg.2 (by linarith)
  have hfloor10 : ⌊10 * Int.fract x⌋ < 10 := Int.floor_lt.2 (by push_cast; linarith)
  have hzero : ⌊10 * Int.fract x⌋ = 0 ↔ Int.fract x < 1 / 10 := by
    rw [Int.floor_eq_zero_iff, Set.mem_Ico]
    constructor
    · rintro ⟨-, hlt⟩
      linarith
    · intro hlt
      exact ⟨by linarith, by linarith⟩
  rw [hsplit, Int.floor_add_intCast, ← hzero]
  omega

/-- Settles O54: the gate's quotient is the whole tenths in `(v - 1)/rate`. -/
theorem measureGateMeaning : Obligations.MeasureGateMeaning := by
  intro v i hv
  have hpos : 1 ≤ v.toNat := Nat.one_le_iff_ne_zero.2 fun h => hv (BitVec.eq_of_toNat_eq h)
  have hrate : (rateE5 i : ℚ) ≠ 0 := by exact_mod_cast (rateE5_pos i).ne'
  have htenths : 10 * (((v.toNat : ℚ) - 1) / ((rateE5 i : ℚ) / 100000)) =
      ((1000000 * (v.toNat - 1) : Nat) : Int) / (rateE5 i : ℚ) := by
    push_cast [Nat.cast_sub hpos]
    field_simp
    ring
  rw [measureGate_iff, ← floor_ten_mul_emod_ten_iff, htenths, Rat.floor_intCast_div_natCast]
  omega

/-! ## The sustain table -/

/-- An `n`-th root of ten, taken to the other side of an inequality of `n`-th powers. -/
theorem pow_mul_ten_pow_le_iff (r a v : Nat) {n : Nat} (hn : n ≠ 0) :
    r ^ n * 10 ^ v ≤ a ^ n ↔ (r : ℝ) ≤ a * (10 : ℝ) ^ (-(v : ℝ) / n) := by
  have hroot : ((10 : ℝ) ^ (-(v : ℝ) / n)) ^ n = (10 ^ v)⁻¹ := by
    rw [← Real.rpow_natCast, ← Real.rpow_mul (by norm_num), div_mul_cancel₀ _ (by exact_mod_cast hn),
      Real.rpow_neg (by norm_num), Real.rpow_natCast]
  have hpow : (r : ℝ) ≤ a * (10 : ℝ) ^ (-(v : ℝ) / n) ↔ (r : ℝ) ^ n ≤ (a * (10 : ℝ) ^ (-(v : ℝ) / n)) ^ n :=
    (pow_le_pow_iff_left₀ (by positivity) (by positivity) hn).symm
  rw [hpow, mul_pow, hroot, le_mul_inv_iff₀ (by positivity)]
  exact_mod_cast Iff.rfl

/-- The search compares with the attenuated level itself. -/
theorem belowAttenuated_iff_real (v r : Nat) :
    belowAttenuated v r = true ↔ (r : ℝ) ≤ 131040 * (10 : ℝ) ^ (-(v : ℝ) / 1000) :=
  (belowAttenuated_iff v r).trans (pow_mul_ten_pow_le_iff r 131040 v (by decide))

theorem attenuatedFloor_eq_floor (v : Nat) :
    attenuatedFloor v 17 0 = ⌊131040 * (10 : ℝ) ^ (-(v : ℝ) / 1000)⌋₊ := by
  obtain ⟨hlo, hhi⟩ := attenuatedFloor_greatest v
  rw [belowAttenuated_iff_real] at hlo
  rw [← Bool.not_eq_true, belowAttenuated_iff_real, not_le] at hhi
  exact ((Nat.floor_eq_iff (by positivity)).2 ⟨hlo, by exact_mod_cast hhi⟩).symm

/-- Settles O51: half up of a number is half of its double's floor and one. -/
theorem sustainTableIsTheRoundedPower : Obligations.SustainTableIsTheRoundedPower := by
  intro v
  have hhalf : (65520 : ℝ) * (10 : ℝ) ^ (-(v.toNat : ℝ) / 1000) + 1 / 2 =
      (131040 * (10 : ℝ) ^ (-(v.toNat : ℝ) / 1000) + 1) / (2 : Nat) := by
    push_cast
    ring
  rw [sustainMap_toNat, attenuatedFloor_eq_floor, hhalf, ← Int.natCast_floor_eq_floor (by positivity),
    Nat.floor_div_natCast, Nat.floor_add_one (by positivity)]

/-- More attenuation leaves less below it. -/
theorem belowAttenuated_of_le {v w r : Nat} (h : v ≤ w) (hr : belowAttenuated w r = true) :
    belowAttenuated v r = true := by
  rw [belowAttenuated_iff] at hr ⊢
  exact (Nat.mul_le_mul_left _ (Nat.pow_le_pow_right (by norm_num) h)).trans hr

theorem le_attenuatedFloor_iff (v r : Nat) : r ≤ attenuatedFloor v 17 0 ↔ belowAttenuated v r = true := by
  obtain ⟨hlo, hhi⟩ := attenuatedFloor_greatest v
  refine ⟨fun h => belowAttenuated_mono h hlo, fun h => ?_⟩
  by_contra hlt
  have habove := belowAttenuated_mono (not_le.1 hlt) h
  rw [hhi] at habove
  cases habove

/-- Settles O52: what is not above the more attenuated level is not above the less attenuated one. -/
theorem sustainTableFalls : Obligations.SustainTableFalls := by
  intro v w h
  have hle : attenuatedFloor w.toNat 17 0 ≤ attenuatedFloor v.toNat 17 0 :=
    (le_attenuatedFloor_iff _ _).2 (belowAttenuated_of_le h ((le_attenuatedFloor_iff _ _).1 le_rfl))
  rw [sustainMap_toNat, sustainMap_toNat]
  omega

/-! ## ENV_SUSTAIN -/

theorem sustainMap_le (v : Value) : (sustainMap v).toNat ≤ 65520 := by
  have hle := attenuatedFloor_le v.toNat
  rw [sustainMap_toNat]
  omega

theorem attenuatedFloor_zero : attenuatedFloor 0 17 0 = 131040 := by
  refine le_antisymm (attenuatedFloor_le 0) ((le_attenuatedFloor_iff _ _).2 ?_)
  rw [belowAttenuated_iff, pow_zero, mul_one]

/-- At 1000 the table is at a tenth: a 1000th power takes the factor 10 in. -/
theorem belowAttenuated_1000_iff (r : Nat) : belowAttenuated 1000 r = true ↔ r * 10 ≤ 131040 := by
  rw [belowAttenuated_iff, ← mul_pow, Nat.pow_le_pow_iff_left (by decide)]

theorem attenuatedFloor_1000 : attenuatedFloor 1000 17 0 = 13104 := by
  refine eq_of_forall_le_iff fun r => ?_
  rw [le_attenuatedFloor_iff, belowAttenuated_1000_iff]
  omega

/-- A bound of a 1000th power by bounds of the 17th and the 14th: 1000 is `17 * 58 + 14`. -/
theorem pow_1000_lt_ten_pow {a v : Nat} (h17 : a ^ 17 < 10 ^ 87) (h14 : a ^ 14 < 10 ^ 72) (hv : 5118 ≤ v) :
    a ^ 1000 < 10 ^ v :=
  calc a ^ 1000 = (a ^ 17) ^ 58 * a ^ 14 := by rw [← pow_mul, ← pow_add]
    _ < (10 ^ 87) ^ 58 * 10 ^ 72 := Nat.mul_lt_mul'' (Nat.pow_lt_pow_left h17 (by decide)) h14
    _ ≤ 10 ^ v := by
      rw [← pow_mul, ← pow_add]
      gcongr
      exact Nat.one_le_ofNat

theorem attenuatedFloor_of_large {v : Nat} (h : 5118 ≤ v) : attenuatedFloor v 17 0 = 0 := by
  by_contra hne
  have hone := (le_attenuatedFloor_iff v 1).1 (Nat.one_le_iff_ne_zero.2 hne)
  have hten : 1 ^ 1000 * 10 ^ v = 10 ^ v := by rw [one_pow, one_mul]
  rw [belowAttenuated_iff, hten] at hone
  exact (pow_1000_lt_ten_pow (by norm_num) (by norm_num) h).not_ge hone

/-- 43_cmd_envelope.md R122. -/
theorem exec_envSustain (v : Value) (s : State) :
    exec (.envSustain v) s = .next (s.setEnv { s.env with sustain := sustainMap v }) := rfl

/-- Settles O2: one write to the envelope; the table's named entries by the search's defining inequality. -/
theorem envelopeSustainCommand : Obligations.EnvelopeSustainCommand := by
  refine fun v s => ⟨lookup_controlId (.envSustain v), exec_envSustain v s, sustainMap_le v, ?_, ?_, fun h => ?_⟩
  · rintro rfl
    rw [sustainMap_toNat]
    exact congrArg (fun r => (r + 1) / 2) attenuatedFloor_zero
  · rintro rfl
    rw [sustainMap_toNat]
    exact congrArg (fun r => (r + 1) / 2) attenuatedFloor_1000
  · rw [sustainMap_toNat, attenuatedFloor_of_large h]

end Sys2Proof.Proofs
end

section
/-! Proofs for 70_reset_and_hazards.md and 10_state.md: the reset values, the first iteration, and the invariant
`State.sound`, which every sub-step and every command keeps in its own group of registers. -/

namespace Sys2Proof.Proofs

open Sys2Proof.Machine

/-! ## Reset -/

/-- Settles O57: the values are the definition's, and `rst` is the reset of the core. -/
theorem resetValues : Obligations.ResetValues :=
  ⟨⟨rfl, rfl, rfl, rfl, rfl, rfl, rfl, rfl, rfl⟩, fun _ _ hin => step_rst hin⟩

theorem phaseLevel_zero : phaseLevel 0 = false := by
  have hzero := phaseLevel_of_nonneg le_rfl
  rw [Int.fract_zero] at hzero
  norm_num at hzero
  exact hzero

/-- A channel after reset stands still and is silent at every time. -/
theorem mixRegs_advanceOsc_reset (t : Timestamp) (bpm10 : BitVec 16) (envOut : Level) (d : BitVec 32) :
    mixRegs t bpm10 envOut (advanceOsc d OscRegs.reset) = OscRegs.reset := by
  have hacc : advanceOsc d OscRegs.reset = OscRegs.reset := by
    simp [advanceOsc, OscRegs.reset, accNext]
  have hphase : oscPhase t bpm10 OscRegs.reset = 0 := by
    simp [oscPhase, oscBase, OscRegs.reset, frac]
  rw [hacc, mixRegs, hphase, phaseLevel_zero]
  rfl

/-- At the frequency 0 the sync phase is 0 at every time. -/
theorem syncRegsAt_reset (t : Timestamp) (bpm10 : BitVec 16) :
    syncRegsAt t bpm10 State.reset.sync = State.reset.sync := by
  have hphase : syncPhaseAt t bpm10 State.reset.sync = 0 := by
    simp [syncPhaseAt, State.reset]
  rw [syncRegsAt, hphase, phaseLevel_zero]
  rfl

/-- Settles O58: after reset sub-steps 2 to 6 write what stands there. -/
theorem firstIterationIsSilent : Obligations.FirstIterationIsSilent := by
  intro t
  have hosc0 : (generators t State.reset).osc0 = OscRegs.reset := mixRegs_advanceOsc_reset t _ _ _
  have hosc1 : (generators t State.reset).osc1 = OscRegs.reset := mixRegs_advanceOsc_reset t _ _ _
  have hsync : (generators t State.reset).sync = State.reset.sync := syncRegsAt_reset t _
  have hrest : generators t State.reset = { State.reset with
      tLast := t
      osc0 := (generators t State.reset).osc0
      osc1 := (generators t State.reset).osc1
      sync := (generators t State.reset).sync } := rfl
  rw [iterate_nil rfl, hrest, hosc0, hosc1, hsync]
  rfl

/-! ## The invariant after reset -/

/-- Settles O59: every range and relation is one of closed values. -/
theorem resetIsSound : Obligations.ResetIsSound := by
  unfold Obligations.ResetIsSound
  decide

/-! ## The invariant over sub-steps 1 to 6 and over one byte -/

theorem decByte_sound {d : DecRegs} (h : decSound d) (b : Byte) : decSound (decByte d b).1 := by
  obtain ⟨hvalue, hframe⟩ := h
  cases hd : d.state with
  | awaitSync =>
    by_cases hb : b = 255#8
    · rw [hb, decByte_sync hd]
      exact ⟨.inr rfl, fun _ => rfl⟩
    · rw [decByte_stray hd hb]
      exact ⟨hvalue, hframe⟩
  | awaitControl =>
    rw [decByte_control hd]
    exact ⟨hvalue, fun _ => hframe (by rw [hd]; nofun)⟩
  | awaitValueHigh =>
    rw [decByte_valueHigh hd]
    exact ⟨hvalue, fun _ => hframe (by rw [hd]; nofun)⟩
  | awaitValueLow =>
    rw [decByte_valueLow hd]
    exact ⟨hvalue, fun hne => absurd rfl hne⟩

theorem beforeDispatch_dec_sound {t : Timestamp} {s : State} (h : decSound s.dec) :
    decSound (beforeDispatch t s).dec := by
  unfold beforeDispatch
  split
  · exact h
  · exact decByte_sound h _

theorem mixRegs_advanceOsc_sound {o : OscRegs} (h : oscSound o) (t : Timestamp) (bpm10 : BitVec 16)
    (envOut : Level) (d : BitVec 32) : oscSound (mixRegs t bpm10 envOut (advanceOsc d o)) := by
  obtain ⟨-, hphase⟩ := h
  refine ⟨?_, hphase⟩
  exact (accNext_toNat o.acc d o.freq100).trans_lt (Nat.mod_lt _ (by decide))

/-- Idle is silent, an attack does not fall below and a release does not rise above its start level. -/
theorem envTickRegs_sound {e : EnvRegs} (h : envSound e) (t : Timestamp) : envSound (envTickRegs t e) := by
  obtain ⟨hattack, hdecay, hrelease, hsustain, -⟩ := h
  have hout := envTickRegs_out_toNat t hsustain
  refine ⟨hattack, hdecay, hrelease, hsustain, fun hst => ?idle, fun hst => ?attack, fun hst => ?release⟩
  case idle =>
    rw [hst] at hout
    exact BitVec.eq_of_toNat_eq (Int.ofNat_inj.1 hout)
  case attack =>
    rw [hst] at hout
    have hrange := attackLevel_range e.lStage (curveOf_nonneg Config.attackShape
      (stageFraction (elapsed t (envTickRegs t e).tStage) e.attackUs)) (curveOf_le_one _ _)
    exact Int.ofNat_le.1 (hrange.1.trans_eq hout.symm)
  case release =>
    rw [hst] at hout
    have hrange := releaseLevel_range e.lStage (curveOf_nonneg Config.releaseShape
      (stageFraction (elapsed t (envTickRegs t e).tStage) e.releaseUs)) (curveOf_le_one _ _)
    exact Int.ofNat_le.1 (hout.trans_le hrange.2)

/-! ## The invariant over a command -/

theorem phaseNumOf_inRange (v : Value) : phaseNumInRange (phaseNumOf v) := by
  have hv := v.isLt
  unfold phaseNumInRange
  rw [phaseNumOf_toInt]
  omega

theorem microsOf_inRange (v : Value) : timeInRange (microsOf v) := by
  have hv := v.isLt
  unfold timeInRange
  rw [microsOf_toNat]
  omega

/-- Only OSCc_PHASE writes the numerator. (The branch `h_17` of the split is SONG_MEASURE.) -/
theorem commandOsc_sound {o : OscRegs} (h : oscSound o) (c : Channel) (i : Instr) (t : Timestamp) :
    oscSound (commandOsc c i t o) := by
  obtain ⟨hacc, hphase⟩ := h
  refine ⟨by rw [commandOsc_acc]; exact hacc, ?_⟩
  unfold commandOsc
  split
  case h_13 v | h_14 v => exact phaseNumOf_inRange v
  case h_17 v => split <;> exact hphase
  all_goals exact hphase

theorem commandSync_sound {y : SyncRegs} (h : syncSound y) (i : Instr) (t : Timestamp) :
    syncSound (commandSync i t y) := by
  obtain ⟨hled, hphase⟩ := h
  refine ⟨by rw [commandSync_led, commandSync_out]; exact hled, ?_⟩
  unfold commandSync
  split
  case h_4 v => exact phaseNumOf_inRange v
  case h_5 v => split <;> exact hphase
  all_goals exact hphase

/-- SONG_MEASURE 0 puts the LED off, and only a nonzero measure puts it on. -/
theorem commandTransport_sound {r : TransportRegs} (h : transportSound r) (i : Instr) :
    transportSound (commandTransport i r) := by
  unfold commandTransport
  split
  case h_2 v => exact fun hv => if_pos hv
  all_goals exact h

/-- An event starts its stage from the output, and so keeps the relation of the two levels. -/
theorem noteOn_sound {e : EnvRegs} (h : envSound e) (t : Timestamp) : envSound (noteOn t e) := by
  obtain ⟨hattack, hdecay, hrelease, hsustain, -⟩ := h
  exact ⟨hattack, hdecay, hrelease, hsustain, nofun, fun _ => le_rfl, nofun⟩

theorem noteOff_sound {e : EnvRegs} (h : envSound e) (t : Timestamp) : envSound (noteOff t e) := by
  cases hgate : gateOpen e.state with
  | false => rwa [noteOff_closed hgate]
  | true =>
    obtain ⟨hattack, hdecay, hrelease, hsustain, -⟩ := h
    rw [noteOff_open hgate]
    exact ⟨hattack, hdecay, hrelease, hsustain, nofun, nofun, fun _ => le_rfl⟩

theorem commandEnv_sound {e : EnvRegs} (h : envSound e) (i : Instr) (t : Timestamp) :
    envSound (commandEnv i t e) := by
  have ⟨hattack, hdecay, hrelease, hsustain, hstage⟩ := h
  cases i with
  | envAttack v => exact ⟨microsOf_inRange v, hdecay, hrelease, hsustain, hstage⟩
  | envDecay v => exact ⟨hattack, microsOf_inRange v, hrelease, hsustain, hstage⟩
  | envRelease v => exact ⟨hattack, hdecay, microsOf_inRange v, hsustain, hstage⟩
  | envSustain v => exact ⟨hattack, hdecay, hrelease, sustainMap_le v, hstage⟩
  | envTrigger v =>
    simp only [commandEnv]
    split_ifs
    · exact noteOn_sound h t
    · exact noteOff_sound h t
    · exact h
  | _ => exact h

/-! ## The invariant over a step -/

/-- What holds without a command and after every command holds whichever is dispatched. -/
theorem elim_of_forall {α : Type} {P : α → Prop} {c : Option Instr} {x : α} {f : Instr → α} (hx : P x)
    (hf : ∀ i, P (f i)) : P (c.elim x f) := by
  cases c with
  | none => exact hx
  | some i => exact hf i

theorem iterated_sound {s : State} (h : s.sound) (t : Timestamp) : (iterated t s).sound := by
  obtain ⟨hdec, htransport, hosc0, hosc1, henv, -, hphase⟩ := h
  have hosc0' : oscSound (generators t s).osc0 := mixRegs_advanceOsc_sound hosc0 t _ _ _
  have hosc1' : oscSound (generators t s).osc1 := mixRegs_advanceOsc_sound hosc1 t _ _ _
  have henv' := envTickRegs_sound henv t
  have hsync' : syncSound (generators t s).sync := ⟨rfl, hphase⟩
  refine ⟨?dec, ?transport, ?osc0, ?osc1, ?env, ?sync⟩
  case dec =>
    rw [iterated, runDispatched_dec]
    exact beforeDispatch_dec_sound hdec
  case transport =>
    rw [iterated_transport]
    exact elim_of_forall (P := fun r => transportSound r) htransport (commandTransport_sound htransport)
  case osc0 =>
    rw [iterated_osc0]
    exact elim_of_forall (P := fun o => oscSound o) hosc0' fun i => commandOsc_sound hosc0' .ch0 i t
  case osc1 =>
    rw [iterated_osc1]
    exact elim_of_forall (P := fun o => oscSound o) hosc1' fun i => commandOsc_sound hosc1' .ch1 i t
  case env =>
    rw [iterated_env]
    exact elim_of_forall (P := fun e => envSound e) henv' fun i => commandEnv_sound henv' i t
  case sync =>
    rw [iterated_sync]
    exact elim_of_forall (P := fun y => syncSound y) hsync' fun i => commandSync_sound hsync' i t

/-- Settles O60: a step is a reset, which is sound, or an iteration, which keeps each group sound. -/
theorem everyStepKeepsSound : Obligations.EveryStepKeepsSound := by
  intro s s' hs h
  rcases step_cases s with ⟨t, rx, hin, -⟩ | ⟨rx, -, hrst⟩
  · rw [eq_iterated_of_step hin h]
    exact iterated_sound (s := s.dropInput.receive rx) hs t
  · cases hrst.symm.trans h
    exact resetIsSound

end Sys2Proof.Proofs
end
